-- ==== Sys2Proof/Word.lean ====
section
/-! DEFINITION. The byte and the plainest arithmetic of the spec (00, Arithmetic). -/

namespace Sys2Proof

/-- One byte of a frame, of the ring lines or of the strap pins. -/
abbrev Byte := BitVec 8

/-- 00, Arithmetic: an exact quotient rounded up. -/
def ceilDiv (a b : Nat) : Nat := (a + b - 1) / b

/-- A signed value limited to 0 to `hi`. -/
def limitTo (hi : Nat) (v : Int) : Nat := (max 0 (min v (hi : Int))).toNat

/-- A counter that saturates at `top` (00, Arithmetic). -/
def saturating (top a b : Nat) : Nat := min top (a + b)

end Sys2Proof
end

