-- ==== Sys2Proof/Syntax.lean ====
section
/-! DEFINITION. The commands of the block: one constructor for each row of spec/opcode_table.json, in the
table's order. A row that serves a management request carries no operand: the request and its operands
stand in the request queue (R173). -/

namespace Sys2Proof

/-- The 61 commands. -/
inductive Instr where
  /-- Power-on with the strap pins reading `straps` (R19, R20). -/
  | powerOnReset (straps : Byte)
  /-- The RESET input is asserted (R19). -/
  | resetInputAsserted
  /-- The RESET input is released with the strap pins reading `straps` (R19, R20). -/
  | resetInputReleased (straps : Byte)
  /-- A part held by its straps reads `straps` (R20). -/
  | strapsValid (straps : Byte)
  /-- A flag arrives on RING-IN `elapsed` milliseconds of internal time after the command before it;
  `line` is what stood on the line since the flag before, empty on an idle line (R1, R2, R5). -/
  | frameReceived (elapsed : Nat) (line : List Byte)
  | transitFrameDeparts
  | transitFrameLeft
  | insertedFrameDeparts
  | insertedFrameLeft
  /-- The lap timer of the own sequence `seq` expires (R15). -/
  | lapTimerExpiry (seq : Byte)
  | probeTimerExpiry
  | clockSecondCount
  | adoptionIntervalExpiry
  | blowLimitExpiry
  | tailExpiry
  | periodBoundary
  | computationCompletion
  /-- The reply timer of the outstanding entry of `account` expires (R151). -/
  | replyTimerExpiry (account : Nat)
  | intervalTimerExpiry
  | accountVisit
  | retryPlacement
  | noticeIntervalExpiry
  | noticeFrameBuilt
  | badRequestCode
  | read
  | readOn
  | writeT0
  | writeT1
  | writeT2
  | writeT3
  | writeT4
  | writeT5
  | writeT6
  | writeT7
  | writeT8
  | writeT9
  | writeT10
  | writeT11
  | writeT12
  | writeT13
  | writeT14
  | exchange
  | readStats
  | readStatsClear
  | restartSweep
  | restartSettlementQueue
  | restartStatistics
  | reset
  /-- The reset a RESET request asked for takes effect with the strap pins reading `straps` (R19, R182). -/
  | resetRequestEffect (straps : Byte)
  | startAllocation
  | stopAllocation
  | setMode
  | trip
  | resume
  | startSweep
  | stopSweep
  | closePeriod
  | fetchBilling
  | releaseBilling
  | fetchSettlement
  | releaseSettlement
  deriving DecidableEq, Repr

end Sys2Proof
end

