-- ==== Sys2Proof/Machine/Types.lean ====
section
/-! DEFINITION. The values the blocks of the part hold: named states, table entries and records, as plain data. -/

namespace Sys2Proof.Machine

/-- A works-clock day number and seconds of day (R39). -/
structure Stamp where
  day : Nat
  seconds : Nat
  deriving DecidableEq, Repr

/-! ## Works Ring Port -/

/-- The thirteen counters of the statistics set, in the order of R18. -/
inductive Counter where
  | forwarded | inserted | stripped | abort | size | headerCheck | payloadCheck | layout
  | transitOverrun | stationConflict | lapMiss | mgmtOverrun | lateReply
  deriving DecidableEq, Repr

/-- R18: a counter's place in the statistics set. -/
def Counter.index : Counter → Nat
  | .forwarded => 0 | .inserted => 1 | .stripped => 2 | .abort => 3 | .size => 4
  | .headerCheck => 5 | .payloadCheck => 6 | .layout => 7 | .transitOverrun => 8
  | .stationConflict => 9 | .lapMiss => 10 | .mgmtOverrun => 11 | .lateReply => 12

/-- The ring state (R16). -/
inductive RingState where
  | unknown | closed | open
  deriving DecidableEq, Repr

/-- A frame of the transit queue with the mark of R7. -/
structure TransitFrame where
  bytes : List Byte
  usable : Bool
  deriving DecidableEq, Repr

/-- The four quotas of the insertion queue (R12). -/
inductive Quota where
  | reply | poll | notice | probe
  deriving DecidableEq, Repr

/-- R12: how many frames of each quota the insertion queue may hold. -/
def Quota.slots : Quota → Nat
  | .reply => 8 | .poll => 4 | .notice => 2 | .probe => 1

/-- A frame of the insertion queue; `echo` is the sequence a REPLY echoes, and `endsPart` marks the DONE
reply of a RESET request (R13, R182). -/
structure Inserted where
  quota : Quota
  destination : Byte
  kind : Nat
  payload : List Byte
  echo : Option Byte
  endsPart : Bool
  deriving DecidableEq, Repr

/-- An entry of the own-frame set; its lap timer runs once the frame has left (R14). -/
structure OwnFrame where
  seq : Byte
  lapDue : Option Nat
  deriving DecidableEq, Repr

/-- What RING-OUT carries (R10). -/
inductive RingOut where
  | flags
  /-- The front frame of the transit queue is being sent as `bytes`. -/
  | transit (bytes : List Byte)
  /-- The front frame of the insertion queue is being sent as `bytes` with sequence `seq`. -/
  | inserted (bytes : List Byte) (seq : Byte)
  deriving DecidableEq, Repr

/-- How the last frame on RING-OUT ended: at its closing flag, or by the abort of R19 (log entry 6). -/
inductive LineOut where
  | whole (bytes : List Byte)
  | aborted (bytes : List Byte)
  deriving DecidableEq, Repr

/-! ## Station Table -/

/-- The roles of R21. -/
inductive Role where
  | gasSource | holder | converter | boiler | recovery | turbine | exchanger | flare | grid
  | clock | safety | heatMeter | mgmtOperator | mgmtEngineer | mgmtBilling
  deriving DecidableEq, Repr

/-- A bound entry of the station table (R21). -/
structure Binding where
  station : Byte
  role : Role
  index : Nat
  ignore : Bool
  deriving DecidableEq, Repr

/-- The class of a requester (R28). -/
inductive MgmtClass where
  | operator | engineer | billing
  deriving DecidableEq, Repr

/-! ## Input Registry -/

/-- The quality of an input record (R30); `absent` is NONE. -/
inductive Quality where
  | absent | good | clamped | held | substituted
  deriving DecidableEq, Repr

/-- An input record (R30); a measurement record uses neither candidate nor flag. -/
structure InputRecord where
  value : Int
  quality : Quality
  arrival : Option Nat
  candidate : Option Int
  agreed : Bool
  deriving DecidableEq, Repr

/-- An entry of T1 (R31). -/
structure InputSetting where
  low : Int
  high : Int
  staleness : Nat
  substitute : Int
  deriving DecidableEq, Repr

/-! ## Works Clock -/

/-- R4, R39. -/
inductive DayType where
  | workday | weekend | holiday
  deriving DecidableEq, Repr

/-- R39. -/
inductive ClockState where
  | invalid | valid | free
  deriving DecidableEq, Repr

/-! ## Holder Monitor -/

/-- The bands of R45. -/
inductive Band where
  | unknown | lowLow | low | normal | high | highHigh
  deriving DecidableEq, Repr

/-- R45: the code of a band. -/
def Band.code : Band → Nat
  | .unknown => 0 | .lowLow => 1 | .low => 2 | .normal => 3 | .high => 4 | .highHigh => 5

/-- An entry of T3 (R46). -/
structure HolderSetting where
  lowLow : Nat
  low : Nat
  high : Nat
  highHigh : Nat
  hysteresis : Nat
  target : Nat
  gain : Nat
  correctionLimit : Nat
  blowOffset : Nat
  postBlow : Nat
  maxBlow : Nat
  deriving DecidableEq, Repr

/-- A holder's band and last evaluated level (R45). -/
structure HolderState where
  band : Band
  level : Option Int
  deriving DecidableEq, Repr

/-- R50. -/
inductive WindowState where
  | idle | blowing | tail
  deriving DecidableEq, Repr

/-- The start of a blow: internal time, and works-clock time unless the clock was INVALID (R50). -/
structure BlowStart where
  time : Nat
  clock : Option Stamp
  deriving DecidableEq, Repr

/-- The blow limit timer: when it is due and the maximum blow time it was started with (R52, R53). -/
structure BlowLimit where
  due : Nat
  duration : Nat
  deriving DecidableEq, Repr

/-- The blow window (R50). -/
structure BlowWindow where
  state : WindowState
  stuck : Bool
  start : Option BlowStart
  previousStart : Option Nat
  lastInterval : Option Nat
  keptStart : Option Nat
  limitTimer : Option BlowLimit
  tailDue : Option Nat
  deriving DecidableEq, Repr

/-- How a blow ended (R53). -/
inductive BlowEnd where
  | normal | limit
  deriving DecidableEq, Repr

/-- An entry of the blow log (R55). -/
structure BlowEntry where
  start : Option Stamp
  duration : Nat
  interval : Option Nat
  ending : BlowEnd
  deriving DecidableEq, Repr

/-! ## Allocation Engine -/

/-- R58. -/
inductive AllocState where
  | stopped | running | tripped
  deriving DecidableEq, Repr

/-- R116. -/
inductive PlantMode where
  | heatFirst | powerFirst
  deriving DecidableEq, Repr

/-- R99. -/
inductive GovMode where
  | pass | clamp | replace
  deriving DecidableEq, Repr

/-- An entry of T4 (R67). -/
structure BoilerSetting where
  fillClass : Nat
  fmin : Nat
  fmax : Nat
  weight : Nat
  efficiency : Nat
  mode : GovMode
  ramp : Nat
  trip : Nat
  deriving DecidableEq, Repr

/-- An entry of T5 (R78). -/
structure TurbineSetting where
  maxSteam : Nat
  mode : GovMode
  ramp : Nat
  trip : Nat
  deriving DecidableEq, Repr

/-- An entry of T6 (R79). -/
structure ExchangerSetting where
  maxHeat : Nat
  defaultRequest : Nat
  staleness : Nat
  mode : GovMode
  ramp : Nat
  trip : Nat
  deriving DecidableEq, Repr

/-- The entry of T7 (R80). -/
structure FlareSetting where
  flareMax : Nat
  mode : GovMode
  ramp : Nat
  trip : Nat
  deriving DecidableEq, Repr

/-- The entry of T8 (R59). -/
structure AllocSetting where
  period : Nat
  efficiency : Nat
  correction : Nat
  topUp : Bool
  purchaseLimit : Nat
  deriving DecidableEq, Repr

/-- The period in progress: the length the timer was started with and its start (R62). -/
structure Period where
  length : Nat
  start : Nat
  deriving DecidableEq, Repr

/-- The snapshot of R63; `takenAt` is the internal time of its boundary. -/
structure Snapshot where
  values : List (Int × Quality)
  t2 : List Nat
  t3 : List HolderSetting
  t4 : List BoilerSetting
  t5 : List TurbineSetting
  t6 : List ExchangerSetting
  t7 : FlareSetting
  t8 : AllocSetting
  bands : List Band
  targets : List Nat
  bound : List (Role × Nat)
  requests : List Nat
  exportTarget : Nat
  tolerance : Nat
  mode : PlantMode
  island : Bool
  state : AllocState
  period : Nat
  takenAt : Nat
  deriving DecidableEq, Repr

/-- What a completion publishes of the allocation summary (R95); `state` is absent until the first
completion, when the field reads 0. -/
structure Summary where
  period : Nat
  mode : PlantMode
  island : Bool
  state : Option AllocState
  inputSubstituted : Bool
  short : Bool
  heatShort : Bool
  exportShort : Bool
  available : List Nat
  corrections : List Int
  fuel : Nat
  byProduct : List Nat
  topUp : List Nat
  excess : Nat
  flareGrant : Nat
  heldExcess : Nat
  pool : Nat
  demand : Nat
  exportTarget : Nat
  tolerance : Nat
  siteLoad : Int
  turbineCap : Nat
  turbineNeed : Nat
  turbineHigh : Nat
  heat : Nat
  turbine : Nat
  dump : Nat
  topHeat : Nat
  shortfall : Nat
  exchangerShares : List Nat
  turbineShares : List Nat
  rho : Nat
  deriving DecidableEq, Repr

/-! ## Demand Governor -/

/-- A last request with its time (R98). -/
structure LastRequest where
  setpoint : Int
  time : Nat
  deriving DecidableEq, Repr

/-- A record of the grant table (R98). -/
structure GrantRecord where
  grant : Nat
  limit : Nat
  pending : Option Nat
  lastRequest : Option LastRequest
  lastPassed : Option Int
  deriving DecidableEq, Repr

/-! ## Trip Latch -/

/-- The four causes of R116. -/
inductive Cause where
  | lowLow0 | lowLow1 | safety | manual
  deriving DecidableEq, Repr

/-- R116: the code of a cause. -/
def Cause.code : Cause → Nat
  | .lowLow0 => 1 | .lowLow1 => 2 | .safety => 4 | .manual => 8

/-- A cause of the set with its entry record (R116). -/
structure CauseEntry where
  cause : Cause
  entry : Option Stamp
  deriving DecidableEq, Repr

/-! ## Export Tracker -/

/-- A SET entry of T9 (R128). -/
structure ExportEntry where
  target : Nat
  tolerance : Nat
  deriving DecidableEq, Repr

/-- The flags of a block, in the order of R130. -/
structure BlockFlags where
  partialBlock : Bool
  trip : Bool
  island : Bool
  clockStep : Bool
  clockFree : Bool
  inputDegraded : Bool
  deriving DecidableEq, Repr

/-- The current block record (R130). -/
structure Block where
  index : Nat
  day : Nat
  entry : Option ExportEntry
  delivered : Int
  elapsed : Nat
  flags : BlockFlags
  handedTarget : Nat
  handedTolerance : Nat
  deriving DecidableEq, Repr

/-- R136. -/
inductive SettleClass where
  | within | over | under | unscheduled
  deriving DecidableEq, Repr

/-- A settlement record (R136). -/
structure Settlement where
  number : Nat
  index : Nat
  day : Nat
  targetKwh : Nat
  toleranceKwh : Nat
  actualKwh : Int
  deviation : Int
  settleClass : SettleClass
  flags : BlockFlags
  lostBefore : Nat
  deriving DecidableEq, Repr

/-! ## Meter Sweep Engine -/

/-- R144. -/
inductive SweepMode where
  | single | oneShot | repeating
  deriving DecidableEq, Repr

/-- The entry of T13 (R144). -/
structure SweepSetting where
  mode : SweepMode
  first : Nat
  last : Nat
  interval : Nat
  retryLimit : Nat
  deriving DecidableEq, Repr

/-- The sweep copy (R143, R146). -/
structure SweepCopy where
  mode : SweepMode
  first : Nat
  last : Nat
  interval : Nat
  deriving DecidableEq, Repr

/-- R143. -/
inductive SweepState where
  | idle | sweeping | waiting | stopping
  deriving DecidableEq, Repr

/-- The phase of an outstanding entry (R147); AWAY holds the sequence and the departure time. -/
inductive PollPhase where
  | queued
  | away (seq : Byte) (departed : Nat)
  deriving DecidableEq, Repr

/-- An entry of the outstanding poll table (R147). -/
structure PollEntry where
  account : Nat
  station : Byte
  phase : PollPhase
  attempt : Nat
  deriving DecidableEq, Repr

/-! ## Billing Unit -/

/-- An entry of T12 (R157). -/
structure AccountSetting where
  enabled : Bool
  meter : Nat
  rate : Nat
  deriving DecidableEq, Repr

/-- R159. -/
inductive AccountState where
  | disabled | unread | active | silent
  deriving DecidableEq, Repr

/-- A baseline with its internal time and its snapshots of REC and TOP (R159). -/
structure Baseline where
  register : Nat
  time : Nat
  recSnap : Nat
  topSnap : Nat
  deriving DecidableEq, Repr

/-- A reading taken, as the period data keep it (R159). -/
structure ReadingStamp where
  register : Nat
  stamp : Stamp
  deriving DecidableEq, Repr

/-- The period data of an account (R159). -/
structure PeriodData where
  first : Option ReadingStamp
  last : Option ReadingStamp
  missed : Nat
  fault : Nat
  rejected : Nat
  gap : Bool
  baseline : Bool
  deriving DecidableEq, Repr

/-- An account beside its T12 entry (R159); the accumulators stand in the order band 0 REC, band 0 TOP, … -/
structure Account where
  state : AccountState
  baseline : Option Baseline
  implausible : Nat
  misses : Nat
  energies : List Nat
  period : PeriodData
  deriving DecidableEq, Repr

/-- A reading as the Meter Sweep Engine hands it over (R149). -/
structure Reading where
  account : Nat
  register : Nat
  stamp : Stamp
  dayType : DayType
  time : Nat
  deriving DecidableEq, Repr

/-- A billing record (R169). -/
structure BillingRecord where
  account : Nat
  closeNumber : Nat
  periodStart : Option Stamp
  periodEnd : Option Stamp
  state : AccountState
  energies : List Nat
  charges : List Nat
  total : Nat
  period : PeriodData
  deriving DecidableEq, Repr

/-! ## Management Unit -/

/-- A queued request (R173). -/
structure Request where
  station : Byte
  seq : Byte
  payload : List Byte
  deriving DecidableEq, Repr

/-- A read cursor (R178). -/
structure Cursor where
  station : Byte
  table : Nat
  index : Nat
  deriving DecidableEq, Repr

/-- The thirteen notice kinds (R183). -/
inductive Notice where
  | trip | resumed | holderBand | inputSubstituted | sweepDone | sweepOverrun | accountSilent
  | settlementReady | billingQueueHigh | stationConflict | ringOpen | ringRestored | timeRejected
  deriving DecidableEq, Repr

/-- R183: the code of a notice kind. -/
def Notice.code : Notice → Nat
  | .trip => 1 | .resumed => 2 | .holderBand => 3 | .inputSubstituted => 4 | .sweepDone => 5
  | .sweepOverrun => 6 | .accountSilent => 7 | .settlementReady => 8 | .billingQueueHigh => 9
  | .stationConflict => 10 | .ringOpen => 11 | .ringRestored => 12 | .timeRejected => 13

/-- The entry of T14 (R183). -/
structure NoticeSetting where
  destination : Byte
  enabled : BitVec 16
  deriving DecidableEq, Repr

/-- How far a RESET request has come (R182): none, its DONE reply waits or is being sent, the reply has left. -/
inductive ResetStage where
  | none | replyWaiting | replyLeft
  deriving DecidableEq, Repr

end Sys2Proof.Machine
end

