-- ==== Sys2Proof/Config.lean ====
section
/-! DEFINITION. The free values: what the spec leaves open. None has a body, so no proof can lean on one.
Each is named in the assumption log. -/

namespace Sys2Proof.Config

open Sys2Proof.Machine

/-- Log entry 7: the codes of states in readable records, which no rule gives. -/
opaque ringStateCode : RingState → BitVec 8
opaque allocStateCode : AllocState → BitVec 8
opaque clockStateCode : ClockState → BitVec 8
opaque qualityCode : Quality → BitVec 8
opaque windowStateCode : WindowState → BitVec 8
opaque blowEndCode : BlowEnd → BitVec 8
opaque settleClassCode : SettleClass → BitVec 8
opaque accountStateCode : AccountState → BitVec 8
opaque sweepStateCode : SweepState → BitVec 8

/-- Log entry 10: what a field of so many bytes carries for a value that does not fit it. -/
opaque unfitValue : Nat → Int → Nat

/-- Log entry 11: how an internal time is written in the holder and window state record. -/
opaque internalTimeCode : Nat → Nat

/-- Log entry 11: whether a remaining time that is no whole second is rounded up (R50 does not say). -/
opaque remainingRoundsUp : Nat → Bool

/-- Log entry 12: the elapsed seconds of a block past 65 535. -/
opaque elapsedBeyond : Nat → BitVec 16

/-- Log entry 20: how long a computation takes, at most 500 ms (R64); it may differ from one to the next. -/
opaque computationTime : Nat → Nat

/-- Log entry 21: which of several expiries due together is taken first. -/
opaque tieBreak : Nat → Nat

end Sys2Proof.Config
end

