-- ==== Sys2Proof/Machine/State.lean ====
section
/-! DEFINITION. The state of the part, block by block (00, Table 1), and its value right after reset. -/

namespace Sys2Proof.Machine

/-- The pins the part reads and what they hold it to (R19, R20). -/
structure Pins where
  straps : Byte
  station : Byte
  resetAsserted : Bool
  strapHold : Bool
  deriving DecidableEq, Repr

/-- The Works Ring Port (chapter 1); `flagSeen` says that a flag has been received since the reset (R19,
log entry 29). -/
structure Port where
  flagSeen : Bool
  transit : List TransitFrame
  insertion : List Inserted
  ringOut : RingOut
  ownSet : List OwnFrame
  seqCounter : Byte
  missCount : Nat
  ringState : RingState
  probeDue : Option Nat
  stats : List Nat
  lastOut : Option LineOut
  deriving DecidableEq, Repr

/-- The tables T0 to T14 (chapter 11). -/
structure Tables where
  t0 : List (Option Binding)
  t1 : List InputSetting
  t2 : List Nat
  t3 : List HolderSetting
  t4 : List BoilerSetting
  t5 : List TurbineSetting
  t6 : List ExchangerSetting
  t7 : FlareSetting
  t8 : AllocSetting
  t9 : List (Option ExportEntry)
  t10 : List Nat
  t11 : List Nat
  t12 : List AccountSetting
  t13 : SweepSetting
  t14 : NoticeSetting
  deriving DecidableEq, Repr

/-- The Works Clock (R39); `nextCount` is the internal time of the next second count. -/
structure Clock where
  seconds : Nat
  day : Nat
  dayType : DayType
  state : ClockState
  nextCount : Option Nat
  adoptionDue : Option Nat
  deriving DecidableEq, Repr

/-- The Holder Monitor (chapter 3). -/
structure Holder where
  holders : List HolderState
  window : BlowWindow
  log : List BlowEntry
  deriving DecidableEq, Repr

/-- The Allocation Engine (chapters 4 and 5). -/
structure Alloc where
  state : AllocState
  period : Option Period
  computing : Option Snapshot
  settingsLoaded : Bool
  summary : Summary
  rho : Nat
  recCounter : Nat
  topCounter : Nat
  deriving DecidableEq, Repr

/-- The Demand Governor (chapter 6). -/
structure Governor where
  grants : List GrantRecord
  onLine : Option Nat
  deriving DecidableEq, Repr

/-- The Trip Latch (chapter 7). -/
structure Latch where
  mode : PlantMode
  island : Bool
  causes : List CauseEntry
  firstCause : Option Cause
  deriving DecidableEq, Repr

/-- The Export Tracker (chapter 8). -/
structure Tracker where
  block : Option Block
  attributed : Nat
  pendingLoss : Nat
  nextNumber : Nat
  queue : List Settlement
  deriving DecidableEq, Repr

/-- The Meter Sweep Engine (chapter 9). -/
structure Sweep where
  state : SweepState
  number : Nat
  copy : SweepCopy
  cursor : Nat
  startStamp : Option Stamp
  intervalDue : Option Nat
  overrun : Bool
  entries : List PollEntry
  placement : List (Option Nat)
  retries : List Nat
  tallyRead : Nat
  tallyFault : Nat
  tallyMissed : Nat
  deriving DecidableEq, Repr

/-- The Billing Unit (chapter 10). -/
structure Billing where
  accounts : List Account
  queue : List BillingRecord
  closeCounter : Nat
  periodStart : Option Stamp
  deriving DecidableEq, Repr

/-- The Management Unit (chapter 11); the cursors stand in the order of their setting, oldest first. -/
structure Mgmt where
  queue : List Request
  cursors : List Cursor
  notices : List (Notice × Int)
  noticeDue : Option Nat
  resetStage : ResetStage
  deriving DecidableEq, Repr

/-- The whole part. `now` is internal time in milliseconds (log entry 2), `freeCount` counts free choices
(log entry 21), `pending` is the queue of waiting commands (log entry 1). -/
structure State where
  pins : Pins
  port : Port
  tables : Tables
  records : List InputRecord
  clock : Clock
  holder : Holder
  alloc : Alloc
  governor : Governor
  latch : Latch
  tracker : Tracker
  sweep : Sweep
  billing : Billing
  mgmt : Mgmt
  now : Nat
  freeCount : Nat
  pending : List Instr
  deriving DecidableEq, Repr

/-- No command makes the part stop, so there is no fault: the spec counts a bad frame (R5) and answers a bad
request with a status (R175). -/
inductive Fault where
  deriving DecidableEq, Repr

/-- Why the model gives a command no meaning. -/
inductive Refusal where
  /-- Raised by exec's arm of a command that has no meaning yet; no arm raises it. Safe: it stops a run. -/
  | notModelled (mnemonic : String)
  deriving DecidableEq, Repr

/-! ## Reset values -/

/-- R1, R16, R18, R19: the Port after reset; `probe` is when its probe timer is due (R17). -/
def Port.initial (probe : Option Nat) (lastOut : Option LineOut) : Port :=
  { flagSeen := false, transit := [], insertion := [], ringOut := .flags, ownSet := [], seqCounter := 0, missCount := 0,
    ringState := .unknown, probeDue := probe, stats := List.replicate 13 0, lastOut := lastOut }

/-- R31: the reset content of a measurement entry of T1. -/
def InputSetting.measurement : InputSetting :=
  { low := -2147483648, high := 2147483647, staleness := 600, substitute := 0 }

/-- R31: the reset content of a status entry of T1. -/
def InputSetting.status : InputSetting := { low := 0, high := 1, staleness := 600, substitute := 0 }

/-- R30: whether a record is a status record. -/
def isStatusRecord (r : Nat) : Bool :=
  r == 8 || (9 ≤ r && r ≤ 14) || r == 17 || r == 18 || r == 20 || r == 22 || r == 24 || r == 26 ||
    r == 29 || r == 30

/-- R46: an unconfigured entry of T3. -/
def HolderSetting.zero : HolderSetting :=
  { lowLow := 0, low := 0, high := 0, highHigh := 0, hysteresis := 0, target := 0, gain := 0,
    correctionLimit := 0, blowOffset := 0, postBlow := 0, maxBlow := 0 }

/-- R67: an unconfigured entry of T4. -/
def BoilerSetting.zero : BoilerSetting :=
  { fillClass := 0, fmin := 0, fmax := 0, weight := 0, efficiency := 0, mode := .pass, ramp := 0, trip := 0 }

/-- R78: an unconfigured entry of T5. -/
def TurbineSetting.zero : TurbineSetting := { maxSteam := 0, mode := .pass, ramp := 0, trip := 0 }

/-- R79: an unconfigured entry of T6. -/
def ExchangerSetting.zero : ExchangerSetting :=
  { maxHeat := 0, defaultRequest := 0, staleness := 0, mode := .pass, ramp := 0, trip := 0 }

/-- R80: an unconfigured entry of T7. -/
def FlareSetting.zero : FlareSetting := { flareMax := 0, mode := .pass, ramp := 0, trip := 0 }

/-- R157: the reset content of an entry of T12. -/
def AccountSetting.zero : AccountSetting := { enabled := false, meter := 0, rate := 0 }

/-- The tables after reset: R29, R31, R46, R59, R66, R77, R97, R128, R144, R157, R160, R183. -/
def Tables.initial : Tables :=
  { t0 := List.replicate 128 none
    t1 := (List.range 31).map fun r => if isStatusRecord r then InputSetting.status else InputSetting.measurement
    t2 := List.replicate 3 0
    t3 := List.replicate 2 HolderSetting.zero
    t4 := List.replicate 6 BoilerSetting.zero
    t5 := List.replicate 2 TurbineSetting.zero
    t6 := List.replicate 4 ExchangerSetting.zero
    t7 := FlareSetting.zero
    t8 := { period := 10, efficiency := 0, correction := 0, topUp := false, purchaseLimit := 0 }
    t9 := List.replicate 96 none
    t10 := List.replicate 144 0
    t11 := List.replicate 8 0
    t12 := List.replicate 96 AccountSetting.zero
    t13 := { mode := .single, first := 0, last := 0, interval := 0, retryLimit := 2 }
    t14 := { destination := 0, enabled := 0 } }

/-- R38: an input record after reset. -/
def InputRecord.initial : InputRecord :=
  { value := 0, quality := .absent, arrival := none, candidate := none, agreed := false }

/-- R44. -/
def Clock.initial : Clock :=
  { seconds := 0, day := 0, dayType := .workday, state := .invalid, nextCount := none, adoptionDue := none }

/-- R57. -/
def BlowWindow.initial : BlowWindow :=
  { state := .idle, stuck := false, start := none, previousStart := none, lastInterval := none,
    keptStart := none, limitTimer := none, tailDue := none }

/-- R57. -/
def HolderState.initial : HolderState := { band := .unknown, level := none }

/-- R57. -/
def Holder.initial : Holder :=
  { holders := List.replicate 2 HolderState.initial, window := BlowWindow.initial, log := [] }

/-- R77: every field of the allocation summary is 0 and its flags are clear. -/
def Summary.initial : Summary :=
  { period := 0, mode := .heatFirst, island := false, state := none, inputSubstituted := false,
    short := false, heatShort := false, exportShort := false, available := List.replicate 3 0,
    corrections := List.replicate 2 0, fuel := 0, byProduct := List.replicate 6 0,
    topUp := List.replicate 6 0, excess := 0, flareGrant := 0, heldExcess := 0, pool := 0, demand := 0,
    exportTarget := 0, tolerance := 0, siteLoad := 0, turbineCap := 0, turbineNeed := 0, turbineHigh := 0,
    heat := 0, turbine := 0, dump := 0, topHeat := 0, shortfall := 0,
    exchangerShares := List.replicate 4 0, turbineShares := List.replicate 2 0, rho := 0 }

/-- R77, R97. -/
def Alloc.initial : Alloc :=
  { state := .stopped, period := none, computing := none, settingsLoaded := false,
    summary := Summary.initial, rho := 1000, recCounter := 0, topCounter := 0 }

/-- R115. -/
def GrantRecord.initial : GrantRecord :=
  { grant := 0, limit := 0, pending := none, lastRequest := none, lastPassed := none }

/-- R115. -/
def Governor.initial : Governor := { grants := List.replicate 13 GrantRecord.initial, onLine := none }

/-- R127. -/
def Latch.initial : Latch := { mode := .heatFirst, island := false, causes := [], firstCause := none }

/-- R142. -/
def Tracker.initial : Tracker :=
  { block := none, attributed := 0, pendingLoss := 0, nextNumber := 0, queue := [] }

/-- R156; the sweep copy's value is DESIGN CHOICE (log entry 23). -/
def Sweep.initial : Sweep :=
  { state := .idle, number := 0, copy := { mode := .single, first := 0, last := 0, interval := 0 },
    cursor := 0, startStamp := none, intervalDue := none, overrun := false, entries := [], placement := [],
    retries := [], tallyRead := 0, tallyFault := 0, tallyMissed := 0 }

/-- R169: period data as a close leaves them. -/
def PeriodData.cleared : PeriodData :=
  { first := none, last := none, missed := 0, fault := 0, rejected := 0, gap := false, baseline := false }

/-- R172: an account after reset. -/
def Account.initial : Account :=
  { state := .disabled, baseline := none, implausible := 0, misses := 0,
    energies := List.replicate 8 0, period := PeriodData.cleared }

/-- R172. -/
def Billing.initial : Billing :=
  { accounts := List.replicate 96 Account.initial, queue := [], closeCounter := 0, periodStart := none }

/-- R185. -/
def Mgmt.initial : Mgmt :=
  { queue := [], cursors := [], notices := [], noticeDue := none, resetStage := .none }

/-- Every block at its reset values, with the pins, the probe timer, RING-OUT's last frame and internal time
as given; the queue of commands is no part of the reset. -/
def State.atReset (pins : Pins) (probe : Option Nat) (lastOut : Option LineOut) (now freeCount : Nat)
    (pending : List Instr) : State :=
  { pins := pins, port := Port.initial probe lastOut, tables := Tables.initial
    records := List.replicate 31 InputRecord.initial, clock := Clock.initial, holder := Holder.initial
    alloc := Alloc.initial, governor := Governor.initial, latch := Latch.initial, tracker := Tracker.initial
    sweep := Sweep.initial, billing := Billing.initial, mgmt := Mgmt.initial
    now := now, freeCount := freeCount, pending := pending }

/-- The part right after power-on reset, out of reset with its straps reading 17: DESIGN CHOICE (log entry 5);
17 is the station number of the spec's worked sequences. -/
def State.reset : State :=
  State.atReset { straps := 17, station := 17, resetAsserted := false, strapHold := false } (some 1000) none 0 0 []

end Sys2Proof.Machine
end

