-- ==== Sys2Proof/Machine/Wire.lean ====
section
/-! DEFINITION. The ring line and the frame: stuffing, the check, the header (R1 to R4), and the order of
bytes in a number (00, Numbering). -/

namespace Sys2Proof.Machine

/-! ## The line -/

/-- R1. -/
def flagByte : Byte := 0xA5

/-- R1. -/
def escapeByte : Byte := 0xA6

/-- R2: a byte equal to the flag or the escape is sent as the escape and the byte XOR 0x20. -/
def stuff : List Byte → List Byte
  | [] => []
  | b :: bs =>
    if b = flagByte ∨ b = escapeByte then escapeByte :: (b ^^^ 0x20) :: stuff bs else b :: stuff bs

/-- R2: the bytes received, or none when the flag that ends them follows an escape. -/
def unstuff : List Byte → Option (List Byte)
  | [] => some []
  | [b] => if b = escapeByte then none else some [b]
  | b :: c :: rest =>
    if b = escapeByte then (unstuff rest).map (fun bs => (c ^^^ 0x20) :: bs)
    else (unstuff (c :: rest)).map (fun bs => b :: bs)

/-- What a flag on RING-IN ends (R1, R2). -/
inductive LineEnd where
  | idle
  | aborted
  | frame (bytes : List Byte)
  deriving DecidableEq, Repr

/-- R1, R2: what stood on the line up to its closing flag; two flags in succession are no frame. -/
def lineEnd (line : List Byte) : LineEnd :=
  match line.takeWhile (fun b => b != flagByte) with
  | [] => .idle
  | b :: bs =>
    match unstuff (b :: bs) with
    | none => .aborted
    | some f => .frame f

/-- R1, R2: a frame on RING-OUT, with its own opening and closing flag. -/
def lineForm (frame : List Byte) : List Byte := flagByte :: (stuff frame ++ [flagByte])

/-- R2, R19: a frame ended by RESET after `sent` of its stuffed bytes: an escape and then a flag. -/
def abortForm (sent : List Byte) : List Byte := flagByte :: (sent ++ [escapeByte, flagByte])

/-- R1: bits are sent most significant first. -/
def lineBits (bytes : List Byte) : List Bool :=
  bytes.flatMap fun b => [7, 6, 5, 4, 3, 2, 1, 0].map b.getLsbD

/-! ## Numbers and the check -/

/-- The low `n` bytes of `v`, most significant byte first. -/
def be : Nat → Nat → List Byte
  | 0, _ => []
  | n + 1, v => BitVec.ofNat 8 (v / 256 ^ n) :: be n v

/-- The number that bytes carry, most significant byte first. -/
def unbe (bytes : List Byte) : Nat := bytes.foldl (fun v b => v * 256 + b.toNat) 0

/-- A number of `n` bytes read in two's complement. -/
def toSigned (n v : Nat) : Int := if v < 2 ^ (8 * n - 1) then (v : Int) else (v : Int) - 2 ^ (8 * n)

/-- R3: one bit into the check's register, polynomial x¹⁶ + x¹² + x⁵ + 1. -/
def checkBit (r : BitVec 16) (bit : Bool) : BitVec 16 :=
  if r.msb ^^ bit then (r <<< 1) ^^^ 0x1021#16 else r <<< 1

/-- R3: one byte, most significant bit first. -/
def checkByte (r : BitVec 16) (b : Byte) : BitVec 16 :=
  [7, 6, 5, 4, 3, 2, 1, 0].foldl (fun r i => checkBit r (b.getLsbD i)) r

/-- R3: the check over bytes, preset to 0xFFFF and not inverted. -/
def check (bytes : List Byte) : BitVec 16 := bytes.foldl checkByte 0xFFFF#16

/-- R3: the check as it is carried, high byte first. -/
def checkBytes (bytes : List Byte) : List Byte := be 2 (check bytes).toNat

/-! ## The frame -/

/-- The byte at a position of a frame, counted from the first header byte. -/
def frameByte (f : List Byte) (i : Nat) : Byte := f.getD i 0

/-- R3, byte 0. -/
def frameDestination (f : List Byte) : Byte := frameByte f 0

/-- R3, byte 1. -/
def frameSource (f : List Byte) : Byte := frameByte f 1

/-- R3, byte 2, the upper five bits. -/
def frameKind (f : List Byte) : Nat := (frameByte f 2).toNat / 8

/-- R3, byte 2, the lower three bits. -/
def frameTags (f : List Byte) : Nat := (frameByte f 2).toNat % 8

/-- R3, byte 3. -/
def frameSeq (f : List Byte) : Byte := frameByte f 3

/-- R3, byte 4. -/
def frameLength (f : List Byte) : Nat := (frameByte f 4).toNat

/-- R3, byte 5. -/
def frameSpare (f : List Byte) : Byte := frameByte f 5

/-- R3: the payload. -/
def framePayload (f : List Byte) : List Byte := (f.drop 8).take (frameLength f)

/-- R5, the size check: true for a frame whose size is right. -/
def sizeOk (f : List Byte) : Bool :=
  8 ≤ f.length && f.length ≤ 130 && frameLength f ≤ 120 && frameSource f != 0 &&
    f.length == (if frameLength f = 0 then 8 else 10 + frameLength f)

/-- R5, the header check. -/
def headerOk (f : List Byte) : Bool := checkBytes (f.take 6) == (f.drop 6).take 2

/-- R7, the payload check; a frame with no payload passes. -/
def payloadOk (f : List Byte) : Bool :=
  frameLength f == 0 || checkBytes (framePayload f) == (f.drop (8 + frameLength f)).take 2

/-- The kinds of R4 that the part reads or sends. -/
def kindSample : Nat := 1
def kindDemand : Nat := 2
def kindPoll : Nat := 3
def kindMgmt : Nat := 4
def kindReply : Nat := 5
def kindNotice : Nat := 6
def kindTime : Nat := 7
def kindProbe : Nat := 8

/-- R4, R105: the header is consistent with the DEMAND layout. -/
def demandConsistent (f : List Byte) : Bool :=
  frameTags f ≤ 3 && frameLength f == 6 + 6 * frameTags f

/-- R4, R7: the layout check, for a part whose station number is `station`. -/
def layoutOk (station : Byte) (f : List Byte) : Bool :=
  if frameKind f = kindSample then
    frameTags f == 0 && frameLength f % 6 == 0 && 6 ≤ frameLength f && frameLength f ≤ 120
  else if frameKind f = kindDemand then demandConsistent f
  else if frameKind f = kindTime then frameTags f == 0 && frameLength f == 7
  else if frameKind f = kindMgmt ∧ frameDestination f = station then
    frameTags f == 0 && 1 ≤ frameLength f
  else true

/-- R3: a frame with both checks computed. -/
def buildFrame (destination source : Byte) (kind tags : Nat) (seq spare : Byte) (payload : List Byte) :
    List Byte :=
  let header := [destination, source, BitVec.ofNat 8 (kind * 8 + tags), seq,
    BitVec.ofNat 8 payload.length, spare]
  header ++ checkBytes header ++ payload ++ (if payload = [] then [] else checkBytes payload)

/-- R4: the value entries of a SAMPLE: channel, transmitter quality, value. -/
structure SampleEntry where
  channel : Nat
  quality : Nat
  value : Int
  deriving DecidableEq, Repr

/-- The first `n` entries of a SAMPLE's payload. -/
def sampleEntriesOf : Nat → List Byte → List SampleEntry
  | 0, _ => []
  | n + 1, p =>
    { channel := (p.getD 0 0).toNat, quality := (p.getD 1 0).toNat,
      value := toSigned 4 (unbe ((p.drop 2).take 4)) } :: sampleEntriesOf n (p.drop 6)

/-- R4: the entries of a SAMPLE in their order. -/
def sampleEntries (payload : List Byte) : List SampleEntry := sampleEntriesOf (payload.length / 6) payload

/-- R4, R32, R149: an entry counts when its transmitter quality is GOOD (0) or SUSPECT (1). -/
def SampleEntry.usable (e : SampleEntry) : Bool := e.quality == 0 || e.quality == 1

/-- R32, R149: the value that counts for a channel: the last entry for it that is not passed over. -/
def lastOnChannel (entries : List SampleEntry) (channel : Nat) : Option Int :=
  ((entries.filter (fun e => e.usable && e.channel == channel)).getLast?).map (fun e => e.value)

end Sys2Proof.Machine
end

