-- ==== Sys2Proof/Machine/Operands.lean ====
section
/-! DEFINITION. The fields that management frames carry (R176): how a value is written, how a table's entries
are read and written, and the operands of the requests. -/

namespace Sys2Proof.Machine

/-! ## Fields -/

/-- R176: an unsigned field of `n` bytes; a value that does not fit is a free value (log entry 10). -/
def field (n v : Nat) : List Byte := be n (if v < 256 ^ n then v else Config.unfitValue n (v : Int))

/-- R176: a signed field of `n` bytes in two's complement (log entry 10). -/
def signedField (n : Nat) (v : Int) : List Byte :=
  if -(2 ^ (8 * n - 1) : Int) ≤ v ∧ v < 2 ^ (8 * n - 1) then be n (v % 2 ^ (8 * n)).toNat
  else be n (Config.unfitValue n v)

/-- R176: a flag is one byte, 1 when set. -/
def flagField (b : Bool) : List Byte := [if b then 1 else 0]

/-- R176: a group that may be absent: its bytes and a present byte, or zeros and 0. -/
def presentField {α : Type} (zeros : Nat) (write : α → List Byte) : Option α → List Byte
  | some a => write a ++ [1]
  | none => List.replicate zeros 0 ++ [0]

/-- A day number and seconds of day: 2 and 4 bytes (R176). -/
def stampField (s : Stamp) : List Byte := field 2 s.day ++ field 4 s.seconds

/-! ## Reading operands -/

/-- Reads fields of the given widths, unsigned. -/
def splitFields : List Nat → List Byte → List Nat
  | [], _ => []
  | w :: ws, bytes => unbe (bytes.take w) :: splitFields ws (bytes.drop w)

/-- Cuts bytes into `count` entries of `size` bytes. -/
def chunks (size : Nat) : Nat → List Byte → List (List Byte)
  | 0, _ => []
  | count + 1, bytes => bytes.take size :: chunks size count (bytes.drop size)

/-- Writes entries into a table from `index` on. -/
def replaceFrom {α : Type} (table : List α) (index : Nat) (new : List α) : List α :=
  table.take index ++ new ++ table.drop (index + new.length)

/-- Reads every entry of a request by its table's own check, given its place; none when any fails. -/
def readEntries {α : Type} (widths : List Nat) (entryOf : Nat → List Nat → Option α) :
    Nat → List (List Byte) → Option (List α)
  | _, [] => some []
  | index, e :: es =>
    match entryOf index (splitFields widths e), readEntries widths entryOf (index + 1) es with
    | some a, some as => some (a :: as)
    | _, _ => none

/-! ## The codes of the tables -/

/-- R21: the role codes. -/
def roleOfCode : Nat → Option Role
  | 1 => some .gasSource | 2 => some .holder | 3 => some .converter | 4 => some .boiler
  | 5 => some .recovery | 6 => some .turbine | 7 => some .exchanger | 8 => some .flare
  | 9 => some .grid | 10 => some .clock | 11 => some .safety | 12 => some .heatMeter
  | 13 => some .mgmtOperator | 14 => some .mgmtEngineer | 15 => some .mgmtBilling
  | _ => none

/-- R21: the code of a role. -/
def Role.code : Role → Nat
  | .gasSource => 1 | .holder => 2 | .converter => 3 | .boiler => 4 | .recovery => 5 | .turbine => 6
  | .exchanger => 7 | .flare => 8 | .grid => 9 | .clock => 10 | .safety => 11 | .heatMeter => 12
  | .mgmtOperator => 13 | .mgmtEngineer => 14 | .mgmtBilling => 15

/-- R21: a role's count of indices; none for the management roles, which carry no index. -/
def Role.count : Role → Option Nat
  | .gasSource => some 3 | .holder => some 2 | .converter => some 1 | .boiler => some 6
  | .recovery => some 2 | .turbine => some 2 | .exchanger => some 4 | .flare => some 1
  | .grid => some 1 | .clock => some 1 | .safety => some 1 | .heatMeter => some 96
  | .mgmtOperator => none | .mgmtEngineer => none | .mgmtBilling => none

/-- R21: BOILER, TURBINE, EXCHANGER and FLARE are the governed roles. -/
def Role.governed : Role → Bool
  | .boiler | .turbine | .exchanger | .flare => true
  | _ => false

/-- R21, R28: the class of a management role. -/
def Role.mgmtClass : Role → Option MgmtClass
  | .mgmtOperator => some .operator
  | .mgmtEngineer => some .engineer
  | .mgmtBilling => some .billing
  | _ => none

/-- R99: the mode codes. -/
def govModeOfCode : Nat → Option GovMode
  | 0 => some .pass | 1 => some .clamp | 2 => some .replace | _ => none

def GovMode.code : GovMode → Nat
  | .pass => 0 | .clamp => 1 | .replace => 2

/-- R144: the mode codes of T13. -/
def sweepModeOfCode : Nat → Option SweepMode
  | 0 => some .single | 1 => some .oneShot | 2 => some .repeating | _ => none

def SweepMode.code : SweepMode → Nat
  | .single => 0 | .oneShot => 1 | .repeating => 2

/-- R116: the mode codes. -/
def PlantMode.code : PlantMode → Nat
  | .heatFirst => 0 | .powerFirst => 1

/-- R4: the day type codes. -/
def DayType.code : DayType → Nat
  | .workday => 0 | .weekend => 1 | .holiday => 2

def dayTypeOfCode : Nat → Option DayType
  | 0 => some .workday | 1 => some .weekend | 2 => some .holiday | _ => none

/-- A flag of 0 or 1. -/
def boolOfCode : Nat → Option Bool
  | 0 => some false | 1 => some true | _ => none

/-! ## One entry of each table: its field widths (R176), its check, its bytes -/

/-- R21: station number, role, role index, admission. -/
def widthsT0 : List Nat := [1, 1, 1, 1]

/-- R22: an entry on its own; an empty entry stores no other field, a management entry no index. -/
def bindingOfFields (own : Byte) (_ : Nat) : List Nat → Option (Option Binding)
  | [st, roleCode, index, admission] =>
    if roleCode = 0 then some none
    else match roleOfCode roleCode with
      | none => none
      | some role =>
        if st = 0 ∨ st = 255 ∨ BitVec.ofNat 8 st = own ∨ 1 < admission then none
        else match role.count with
          | none => some (some ⟨BitVec.ofNat 8 st, role, 0, admission == 1⟩)
          | some n => if index < n then some (some ⟨BitVec.ofNat 8 st, role, index, admission == 1⟩) else none
  | _ => none

def Binding.write (b : Binding) : List Byte :=
  [b.station] ++ field 1 b.role.code ++ field 1 b.index ++ flagField b.ignore

/-- R21: an empty entry reads as zeros. -/
def writeT0Entry : Option Binding → List Byte
  | some b => b.write
  | none => [0, 0, 0, 0]

/-- R31: range low and high and the substitute value are signed. -/
def widthsT1 : List Nat := [4, 4, 2, 4]

/-- R31. -/
def inputSettingOfFields (record : Nat) : List Nat → Option InputSetting
  | [lo, hi, staleness, sub] =>
    let low := toSigned 4 lo
    let high := toSigned 4 hi
    let substitute := toSigned 4 sub
    if low ≤ high ∧ 2 ≤ staleness ∧ staleness ≤ 600 ∧ low ≤ substitute ∧ substitute ≤ high ∧
        (isStatusRecord record = true → low = 0 ∧ high = 1)
    then some ⟨low, high, staleness, substitute⟩ else none
  | _ => none

def InputSetting.write (e : InputSetting) : List Byte :=
  signedField 4 e.low ++ signedField 4 e.high ++ field 2 e.staleness ++ signedField 4 e.substitute

/-- R66. -/
def widthsT2 : List Nat := [2]

def sourceSettingOfFields (_ : Nat) : List Nat → Option Nat
  | [h] => if h ≤ 40000 then some h else none
  | _ => none

/-- R46: LL, L, H, HH, hysteresis, target, gain, correction limit, blow offset, post-blow time, maximum blow
time. -/
def widthsT3 : List Nat := [2, 2, 2, 2, 1, 2, 2, 4, 2, 2, 2]

/-- R46. -/
def holderSettingOfFields (h : Nat) : List Nat → Option HolderSetting
  | [ll, l, hi, hh, hy, target, gain, cmax, beta, post, maxBlow] =>
    if hh ≤ 1000 ∧ hy ≤ 100 ∧ target ≤ 1000 ∧ gain ≤ 10000 ∧ cmax ≤ 500000 ∧
        ll < l ∧ l < hi ∧ hi < hh ∧ hy < hi - l ∧
        (if h = 0 then beta = 0 ∧ post = 0 ∧ maxBlow = 0
          else beta ≤ 300 ∧ post ≤ 600 ∧ 60 ≤ maxBlow ∧ maxBlow ≤ 3600)
    then some ⟨ll, l, hi, hh, hy, target, gain, cmax, beta, post, maxBlow⟩ else none
  | _ => none

def HolderSetting.write (e : HolderSetting) : List Byte :=
  field 2 e.lowLow ++ field 2 e.low ++ field 2 e.high ++ field 2 e.highHigh ++ field 1 e.hysteresis ++
    field 2 e.target ++ field 2 e.gain ++ field 4 e.correctionLimit ++ field 2 e.blowOffset ++
    field 2 e.postBlow ++ field 2 e.maxBlow

/-- R67: class, Fmin, Fmax, weight, efficiency, mode, ramp, trip setpoint. -/
def widthsT4 : List Nat := [1, 4, 4, 1, 1, 1, 4, 4]

/-- R67, R99, R100. -/
def boilerSettingOfFields (_ : Nat) : List Nat → Option BoilerSetting
  | [cls, fmin, fmax, w, eta, modeCode, ramp, trip] =>
    match govModeOfCode modeCode with
    | none => none
    | some mode =>
      let e : BoilerSetting := ⟨cls, fmin, fmax, w, eta, mode, ramp, trip⟩
      if e = BoilerSetting.zero ∨
          (1 ≤ cls ∧ cls ≤ 4 ∧ 1 ≤ fmin ∧ fmin ≤ fmax ∧ fmax ≤ 1000000 ∧ 1 ≤ w ∧ w ≤ 100 ∧
            50 ≤ eta ∧ eta ≤ 99 ∧ ramp ≤ 100000 ∧ (trip = 0 ∨ (fmin ≤ trip ∧ trip ≤ fmax)))
      then some e else none
  | _ => none

def BoilerSetting.write (e : BoilerSetting) : List Byte :=
  field 1 e.fillClass ++ field 4 e.fmin ++ field 4 e.fmax ++ field 1 e.weight ++ field 1 e.efficiency ++
    field 1 e.mode.code ++ field 4 e.ramp ++ field 4 e.trip

/-- R78: maximum steam, mode, ramp, trip setpoint. -/
def widthsT5 : List Nat := [4, 1, 4, 4]

/-- R78, R99, R100. -/
def turbineSettingOfFields (_ : Nat) : List Nat → Option TurbineSetting
  | [m, modeCode, ramp, trip] =>
    match govModeOfCode modeCode with
    | none => none
    | some mode =>
      let e : TurbineSetting := ⟨m, mode, ramp, trip⟩
      if e = TurbineSetting.zero ∨ (1 ≤ m ∧ m ≤ 1000000 ∧ ramp ≤ 100000 ∧ trip ≤ m) then some e else none
  | _ => none

def TurbineSetting.write (e : TurbineSetting) : List Byte :=
  field 4 e.maxSteam ++ field 1 e.mode.code ++ field 4 e.ramp ++ field 4 e.trip

/-- R79: maximum heat, default request, request staleness, mode, ramp, trip setpoint. -/
def widthsT6 : List Nat := [4, 4, 2, 1, 4, 4]

/-- R79, R99, R100. -/
def exchangerSettingOfFields (_ : Nat) : List Nat → Option ExchangerSetting
  | [m, default, staleness, modeCode, ramp, trip] =>
    match govModeOfCode modeCode with
    | none => none
    | some mode =>
      let e : ExchangerSetting := ⟨m, default, staleness, mode, ramp, trip⟩
      if e = ExchangerSetting.zero ∨
          (1 ≤ m ∧ m ≤ 1000000 ∧ default ≤ m ∧ 10 ≤ staleness ∧ staleness ≤ 600 ∧ ramp ≤ 100000 ∧ trip ≤ m)
      then some e else none
  | _ => none

def ExchangerSetting.write (e : ExchangerSetting) : List Byte :=
  field 4 e.maxHeat ++ field 4 e.defaultRequest ++ field 2 e.staleness ++ field 1 e.mode.code ++
    field 4 e.ramp ++ field 4 e.trip

/-- R80: flare maximum, mode, ramp, trip setpoint. -/
def widthsT7 : List Nat := [4, 1, 4, 4]

/-- R80, R99, R100. -/
def flareSettingOfFields (_ : Nat) : List Nat → Option FlareSetting
  | [m, modeCode, ramp, trip] =>
    match govModeOfCode modeCode with
    | none => none
    | some mode =>
      let e : FlareSetting := ⟨m, mode, ramp, trip⟩
      if e = FlareSetting.zero ∨ (1 ≤ m ∧ m ≤ 1000000 ∧ ramp ≤ 100000 ∧ trip ≤ m) then some e else none
  | _ => none

def FlareSetting.write (e : FlareSetting) : List Byte :=
  field 4 e.flareMax ++ field 1 e.mode.code ++ field 4 e.ramp ++ field 4 e.trip

/-- R59: period length, efficiency, correction limit, top-up enable, purchase limit. -/
def widthsT8 : List Nat := [1, 1, 4, 1, 4]

/-- R59. -/
def allocSettingOfFields (_ : Nat) : List Nat → Option AllocSetting
  | [p, eps, corr, topUpCode, umax] =>
    match boolOfCode topUpCode with
    | none => none
    | some topUp =>
      if 2 ≤ p ∧ p ≤ 60 ∧ 15 ≤ eps ∧ eps ≤ 45 ∧ corr ≤ 100000 ∧ umax ≤ 1000000
      then some ⟨p, eps, corr, topUp, umax⟩ else none
  | _ => none

def AllocSetting.write (e : AllocSetting) : List Byte :=
  field 1 e.period ++ field 1 e.efficiency ++ field 4 e.correction ++ flagField e.topUp ++
    field 4 e.purchaseLimit

/-- R128: set flag, target, tolerance. -/
def widthsT9 : List Nat := [1, 4, 2]

/-- R128. -/
def exportEntryOfFields (_ : Nat) : List Nat → Option (Option ExportEntry)
  | [flag, target, tolerance] =>
    match boolOfCode flag with
    | none => none
    | some false => some none
    | some true => if target ≤ 400000 ∧ tolerance ≤ 50000 then some (some ⟨target, tolerance⟩) else none
  | _ => none

/-- R128: an UNSET entry reads with target and tolerance 0. -/
def writeT9Entry : Option ExportEntry → List Byte
  | some e => flagField true ++ field 4 e.target ++ field 2 e.tolerance
  | none => flagField false ++ field 4 0 ++ field 2 0

/-- R160. -/
def widthsT10 : List Nat := [1]

def tariffBandOfFields (_ : Nat) : List Nat → Option Nat
  | [band] => if band ≤ 3 then some band else none
  | _ => none

/-- R160. -/
def widthsT11 : List Nat := [4]

def priceOfFields (_ : Nat) : List Nat → Option Nat
  | [price] => if price ≤ 10000000 then some price else none
  | _ => none

/-- R157: enabled, meter index, maximum rate. -/
def widthsT12 : List Nat := [1, 1, 2]

/-- R157. -/
def accountSettingOfFields (_ : Nat) : List Nat → Option AccountSetting
  | [enabledCode, meter, rate] =>
    match boolOfCode enabledCode with
    | none => none
    | some enabled =>
      if meter ≤ 95 ∧ rate ≤ 50000 ∧ (enabled = true → 1 ≤ rate) then some ⟨enabled, meter, rate⟩ else none
  | _ => none

def AccountSetting.write (e : AccountSetting) : List Byte :=
  flagField e.enabled ++ field 1 e.meter ++ field 2 e.rate

/-- R144: mode, first account, last account, sweep interval, retry limit. -/
def widthsT13 : List Nat := [1, 1, 1, 4, 1]

/-- R144. -/
def sweepSettingOfFields (_ : Nat) : List Nat → Option SweepSetting
  | [modeCode, first, last, interval, retry] =>
    match sweepModeOfCode modeCode with
    | none => none
    | some mode =>
      if first ≤ last ∧ last ≤ 95 ∧ 60 ≤ interval ∧ interval ≤ 86400 ∧ retry ≤ 3
      then some ⟨mode, first, last, interval, retry⟩ else none
  | _ => none

def SweepSetting.write (e : SweepSetting) : List Byte :=
  field 1 e.mode.code ++ field 1 e.first ++ field 1 e.last ++ field 4 e.interval ++ field 1 e.retryLimit

/-- R183: destination, enable set. -/
def widthsT14 : List Nat := [1, 2]

/-- R183. -/
def noticeSettingOfFields (own : Byte) (_ : Nat) : List Nat → Option NoticeSetting
  | [dest, bits] =>
    let enabled := BitVec.ofNat 16 bits
    if dest = 255 ∨ BitVec.ofNat 8 dest = own ∨ enabled.getLsbD 0 = true ∨ enabled.getLsbD 14 = true ∨
        enabled.getLsbD 15 = true
    then none else some ⟨BitVec.ofNat 8 dest, enabled⟩
  | _ => none

def NoticeSetting.write (e : NoticeSetting) : List Byte := [e.destination] ++ be 2 e.enabled.toNat

/-- The widths of a configuration table's fields (R176); none for a number that names no table T0 to T14. -/
def tableWidths : Nat → Option (List Nat)
  | 0 => some widthsT0 | 1 => some widthsT1 | 2 => some widthsT2 | 3 => some widthsT3
  | 4 => some widthsT4 | 5 => some widthsT5 | 6 => some widthsT6 | 7 => some widthsT7
  | 8 => some widthsT8 | 9 => some widthsT9 | 10 => some widthsT10 | 11 => some widthsT11
  | 12 => some widthsT12 | 13 => some widthsT13 | 14 => some widthsT14
  | _ => none

/-- How many bytes one entry of a configuration table takes. -/
def entrySize (table : Nat) : Option Nat := (tableWidths table).map List.sum

/-- 11.2: how many entries a configuration table has. -/
def tableLength : Nat → Nat
  | 0 => 128 | 1 => 31 | 2 => 3 | 3 => 2 | 4 => 6 | 5 => 2 | 6 => 4 | 7 => 1 | 8 => 1 | 9 => 96
  | 10 => 144 | 11 => 8 | 12 => 96 | 13 => 1 | 14 => 1
  | _ => 0

/-! ## Where a WRITE or EXCHANGE keeps its operands -/

/-- R179, R180: three bytes stand before the entries: the table number and a two-byte index (log entry 8). -/
def writePrefix : Nat := 3

/-- The table number of a WRITE or EXCHANGE, from its operands. -/
def writeTable (operands : List Byte) : Option Nat := operands.head?.map BitVec.toNat

/-- The index of a WRITE or EXCHANGE, from its operands. -/
def writeIndex (operands : List Byte) : Nat := unbe ((operands.drop 1).take (writePrefix - 1))

end Sys2Proof.Machine
end

