-- ==== Sys2Proof/Machine/Ops.lean ====
section
/-! DEFINITION. The operations every block shares: internal time, counters, lookups in the station table, the
insertion queue's slots, notice events, the reading of an input record. -/

namespace Sys2Proof.Machine

/-! ## Lists -/

/-- Applies `f` to every element with its place, counted from `i`. -/
def mapFrom {α β : Type} (f : Nat → α → β) : Nat → List α → List β
  | _, [] => []
  | i, a :: as => f i a :: mapFrom f (i + 1) as

/-- Appends to a list that drops its oldest element once it holds `cap`. -/
def pushCapped {α : Type} (cap : Nat) (l : List α) (a : α) : List α :=
  (if cap ≤ l.length then l.drop 1 else l) ++ [a]

/-! ## Time -/

/-- Milliseconds of internal time in a second (log entry 2). -/
def second : Nat := 1000

/-- Internal time moves on to `t`, and never back (log entry 2). -/
def State.advanceTo (s : State) (t : Nat) : State := { s with now := max s.now t }

/-- R19, R20: the part is held in reset by its RESET input or by its straps. -/
def State.outOfReset (s : State) : Bool := !s.pins.resetAsserted && !s.pins.strapHold

/-- Whole seconds from `t` to now, rounded down. -/
def State.secondsSince (s : State) (t : Nat) : Nat := (s.now - t) / second

/-- A command of a part that is out of reset; a part held in reset does nothing (R19, R20), and a command never
ends in a fault or a refusal (log entry 3). -/
def act (s : State) (effect : State → State) : Host.Outcome State Fault Refusal :=
  .next (if s.outOfReset then effect s else s)

/-! ## The works clock, as other blocks read it -/

/-- The works-clock day and seconds, absent while the clock is INVALID (R50, R116, R168). -/
def State.stamp (s : State) : Option Stamp :=
  if s.clock.state = .invalid then none else some ⟨s.clock.day, s.clock.seconds⟩

/-- R39: the current settlement block, which is the current tariff slot too. -/
def State.clockBlock (s : State) : Nat := s.clock.seconds / 1800

/-! ## Statistics -/

/-- R18: increments a counter, which saturates at 4 294 967 295. -/
def State.count (s : State) (c : Counter) : State :=
  { s with port := { s.port with stats := s.port.stats.modify c.index (saturating 4294967295 1) } }

/-- R18: sets every counter to 0. -/
def State.clearStats (s : State) : State :=
  { s with port := { s.port with stats := List.replicate 13 0 } }

/-! ## The station table, as other blocks read it -/

/-- The bound entries. -/
def State.bindings (s : State) : List Binding := s.tables.t0.filterMap id

/-- R27: the entry that binds a station. -/
def State.bindingOf (s : State) (station : Byte) : Option Binding :=
  s.bindings.find? (fun b => b.station == station)

/-- R27: the entry of an admitted station. -/
def State.admitted (s : State) (station : Byte) : Option Binding :=
  (s.bindingOf station).filter (fun b => !b.ignore)

/-- R21: the entry that binds a role and index, in a given table. -/
def bindingAt (bindings : List Binding) (role : Role) (index : Nat) : Option Binding :=
  bindings.find? (fun b => b.role == role && b.index == index)

/-- R21: the station bound to a role and index, in a given table. -/
def stationAt (t0 : List (Option Binding)) (role : Role) (index : Nat) : Option Byte :=
  (bindingAt (t0.filterMap id) role index).map (fun b => b.station)

/-- R21, R60: a role and index counts as bound whatever its admission. -/
def State.isBound (s : State) (role : Role) (index : Nat) : Bool :=
  (stationAt s.tables.t0 role index).isSome

/-- R28: the class of a requester; the open state gives ENGINEER to every source. -/
def State.classOf (s : State) (station : Byte) : Option MgmtClass :=
  if s.bindings.all (fun b => b.role.mgmtClass.isNone) then some .engineer
  else (s.admitted station).bind (fun b => b.role.mgmtClass)

/-! ## The insertion queue -/

/-- R12: a slot of the quota is free. -/
def State.freeSlot (s : State) (q : Quota) : Bool :=
  s.port.insertion.countP (fun f => f.quota == q) < q.slots

/-- R12: a frame enters at the back of the insertion queue. -/
def State.place (s : State) (f : Inserted) : State :=
  { s with port := { s.port with insertion := s.port.insertion ++ [f] } }

/-! ## Notice events -/

/-- R184: the kind joins the pending set, or its pending value is replaced; kinds stand in ascending code. -/
def enterNotice (k : Notice) (v : Int) : List (Notice × Int) → List (Notice × Int)
  | [] => [(k, v)]
  | (k', v') :: rest =>
    if k.code < k'.code then (k, v) :: (k', v') :: rest
    else if k = k' then (k, v) :: rest
    else (k', v') :: enterNotice k v rest

/-- R183: a kind is enabled and notices have a destination. -/
def NoticeSetting.takes (t14 : NoticeSetting) (k : Notice) : Bool :=
  t14.destination != 0 && t14.enabled.getLsbD k.code

/-- R184: a notice event handed to the Management Unit. -/
def State.notice (s : State) (k : Notice) (v : Int) : State :=
  if s.tables.t14.takes k then
    { s with mgmt := { s.mgmt with notices := enterNotice k v s.mgmt.notices } }
  else s

/-! ## Input records, as other blocks read them -/

/-- The record of a number (R30). -/
def State.record (s : State) (r : Nat) : InputRecord := s.records.getD r InputRecord.initial

/-- The settings of a record (R31). -/
def State.inputSetting (s : State) (r : Nat) : InputSetting := s.tables.t1.getD r InputSetting.measurement

/-- R38: a record of quality NONE reads as SUBSTITUTED with its substitute value. -/
def State.readRecord (s : State) (r : Nat) : Int × Quality :=
  if (s.record r).quality = .absent then ((s.inputSetting r).substitute, .substituted)
  else ((s.record r).value, (s.record r).quality)

/-- The value of a record as it stands (R35, R38). -/
def State.recordValue (s : State) (r : Nat) : Int := (s.readRecord r).1

/-- Changes one record. -/
def State.setRecord (s : State) (r : Nat) (f : InputRecord → InputRecord) : State :=
  { s with records := s.records.modify r f }

/-- R30: the role and index a record belongs to. -/
def recordOwner (r : Nat) : Role × Nat :=
  if r < 6 then (.gasSource, r / 2)
  else if r < 8 then (.holder, r - 6)
  else if r = 8 then (.converter, 0)
  else if r < 15 then (.boiler, r - 9)
  else if r < 17 then (.recovery, r - 15)
  else if r < 19 then (.turbine, r - 17)
  else if r < 27 then (.exchanger, (r - 19) / 2)
  else if r < 30 then (.grid, 0)
  else (.safety, 0)

/-- R30: the channel a record belongs to. -/
def recordChannel (r : Nat) : Nat :=
  if r < 6 then r % 2 + 1
  else if r < 19 then 1
  else if r < 27 then (r - 19) % 2 + 1
  else if r < 30 then r - 26
  else 1

/-! ## The settings of a governed station -/

/-- What the settings entry of a grant record gives it (R98): mode, ramp, trip setpoint, station maximum. -/
structure Governing where
  mode : GovMode
  ramp : Nat
  trip : Nat
  maximum : Nat
  deriving DecidableEq, Repr

/-- R98: the settings entry of a grant record, records 0 to 12. -/
def Tables.governing (t : Tables) (k : Nat) : Governing :=
  if k < 6 then
    let e := t.t4.getD k BoilerSetting.zero
    ⟨e.mode, e.ramp, e.trip, e.fmax⟩
  else if k < 8 then
    let e := t.t5.getD (k - 6) TurbineSetting.zero
    ⟨e.mode, e.ramp, e.trip, e.maxSteam⟩
  else if k < 12 then
    let e := t.t6.getD (k - 8) ExchangerSetting.zero
    ⟨e.mode, e.ramp, e.trip, e.maxHeat⟩
  else ⟨t.t7.mode, t.t7.ramp, t.t7.trip, t.t7.flareMax⟩

/-- R98: the grant record of a governed role and index. -/
def grantIndex (role : Role) (index : Nat) : Option Nat :=
  match role with
  | .boiler => some index
  | .turbine => some (6 + index)
  | .exchanger => some (8 + index)
  | .flare => some 12
  | _ => none

end Sys2Proof.Machine
end

