-- ==== Sys2Proof/Machine/Balance.lean ====
section
/-! DEFINITION. The nine stages of the computation (chapters 4 and 5), a function of the snapshot and of the
origin per-mille in force. -/

namespace Sys2Proof.Machine

/-! ## The snapshot, as the stages read it -/

/-- The value of a record in the snapshot. -/
def Snapshot.value (n : Snapshot) (r : Nat) : Int := (n.values.getD r (0, .absent)).1

/-- A role and index is bound in the snapshot. -/
def Snapshot.isBound (n : Snapshot) (role : Role) (index : Nat) : Bool := n.bound.contains (role, index)

/-! ## Stages 1 to 3: available fuel -/

/-- R68: a flow of a gas as an energy rate. -/
def energyRate (flow : Int) (calorific : Nat) : Nat := limitTo 65535 flow * 10 * calorific / 3600

/-- R68: the net rate of a source. -/
def netRate (n : Snapshot) (source : Nat) : Int :=
  if n.isBound .gasSource source then
    (energyRate (n.value (2 * source)) (n.t2.getD source 0) : Int) -
      energyRate (n.value (2 * source + 1)) (n.t2.getD source 0)
  else 0

/-- R69: the limited correction of a holder. -/
def limitedCorrection (n : Snapshot) (h : Nat) : Int :=
  let e := n.t3.getD h HolderSetting.zero
  let raw := (e.gain : Int) * ((limitTo 1000 (n.value (6 + h)) : Int) - n.targets.getD h 0)
  max (-(e.correctionLimit : Int)) (min raw e.correctionLimit)

/-- R70: the correction of a holder. -/
def holderCorrection (n : Snapshot) (h : Nat) : Int :=
  let e := n.t3.getD h HolderSetting.zero
  match n.bands.getD h .unknown with
  | .unknown => 0
  | .lowLow => 0
  | .low => -(e.correctionLimit : Int)
  | .normal => limitedCorrection n h
  | .high => limitedCorrection n h
  | .highHigh => e.correctionLimit

/-- R66, R71: the correction of the holder that pairs with a source; source 1 has none. -/
def pairedCorrection (n : Snapshot) (source : Nat) : Int :=
  if source = 0 then holderCorrection n 0 else if source = 2 then holderCorrection n 1 else 0

/-- R71: the available fuel of a source. -/
def availableFuel (n : Snapshot) (source : Nat) : Nat :=
  if n.isBound .gasSource source then (max 0 (netRate n source + pairedCorrection n source)).toNat else 0

/-! ## Stage 4: boiler fill -/

/-- An eligible boiler as the fill sees it. -/
structure FillBoiler where
  number : Nat
  cls : Nat
  fmin : Nat
  fmax : Nat
  weight : Nat
  efficiency : Nat
  deriving DecidableEq, Repr

/-- R72: the eligible boilers, by number. -/
def eligibleBoilers (n : Snapshot) : List FillBoiler :=
  ((List.range 6).filter fun b => n.isBound .boiler b && n.value (9 + b) == 1 &&
      n.t4.getD b BoilerSetting.zero != BoilerSetting.zero).map fun b =>
    let e := n.t4.getD b BoilerSetting.zero
    ⟨b, e.fillClass, e.fmin, e.fmax, e.weight, e.efficiency⟩

/-- R72: the boilers of one class. -/
def ofClass (boilers : List FillBoiler) (c : Nat) : List FillBoiler := boilers.filter fun b => b.cls == c

/-- R72: fill order: by class, and within a class by number. -/
def fillOrder (boilers : List FillBoiler) : List FillBoiler := [1, 2, 3, 4].flatMap (ofClass boilers)

/-- A running fill: the remainder, each boiler's running grant, and whether a boiler was banked. -/
structure Fill where
  rest : Nat
  grants : List Nat
  banked : Bool
  deriving DecidableEq, Repr

/-- R73: one visit of the minimum pass. -/
def visitMinimum (f : Fill) (b : FillBoiler) : Fill :=
  if b.fmin ≤ f.rest then { f with rest := f.rest - b.fmin, grants := f.grants.set b.number b.fmin }
  else { f with banked := true }

/-- R74: the considered boilers: running grant above 0 and below Fmax. -/
def considered (boilers : List FillBoiler) (grants : List Nat) : List FillBoiler :=
  boilers.filter fun b => 0 < grants.getD b.number 0 && grants.getD b.number 0 < b.fmax

/-- R74: a boiler's share of the remainder at the start of a round. -/
def fillShare (rest weights : Nat) (b : FillBoiler) : Nat := rest * b.weight / weights

/-- R74: what a boiler is given: its share, or its headroom when that is smaller. -/
def giveTo (amount : FillBoiler → Nat) (f : Fill) (b : FillBoiler) : Fill :=
  let g := f.grants.getD b.number 0
  let given := min (amount b) (b.fmax - g)
  { f with rest := f.rest - given, grants := f.grants.set b.number (g + given) }

/-- R74: the rounds of a class, at most `fuel` of them. -/
def fillRounds (boilers : List FillBoiler) : Nat → Fill → Fill
  | 0, f => f
  | fuel + 1, f =>
    let cs := considered boilers f.grants
    if cs = [] ∨ f.rest = 0 then f
    else
      let weights := (cs.map fun b => b.weight).sum
      let f1 := cs.foldl (giveTo (fillShare f.rest weights)) f
      if cs.any (fun b => b.fmax - f.grants.getD b.number 0 < fillShare f.rest weights b) then
        fillRounds boilers fuel f1
      else f1

/-- R75: one visit of the residue pass: as much of the remainder as the headroom allows. -/
def visitResidue (f : Fill) (b : FillBoiler) : Fill :=
  if 0 < f.grants.getD b.number 0 ∧ f.grants.getD b.number 0 < b.fmax then giveTo (fun _ => f.rest) f b else f

/-- R74, R75: the rounds and the residue pass of one class. -/
def fillClass (boilers : List FillBoiler) (f : Fill) (c : Nat) : Fill :=
  (ofClass boilers c).foldl visitResidue (fillRounds (ofClass boilers c) 6 f)

/-- R73 to R76: the whole fill of `fuel`. -/
def fillBoilers (boilers : List FillBoiler) (fuel : Nat) : Fill :=
  [1, 2, 3, 4].foldl (fillClass boilers)
    ((fillOrder boilers).foldl visitMinimum { rest := fuel, grants := List.replicate 6 0, banked := false })

/-! ## Stages 5 and 6: the steam pool and its split -/

/-- R81: the recovery steam. -/
def recoverySteam (n : Snapshot) : Nat :=
  ((List.range 2).map fun i => if n.isBound .recovery i then limitTo 1000000 (n.value (15 + i)) else 0).sum

/-- R81: the recovered steam pool E. -/
def steamPool (n : Snapshot) (boilers : List FillBoiler) (grants : List Nat) : Nat :=
  (boilers.map fun b => grants.getD b.number 0 * b.efficiency / 100).sum + recoverySteam n

/-- R82: each exchanger's request as it counts toward the town demand; 0 when it is not eligible. -/
def exchangerClaims (n : Snapshot) : List Nat :=
  (List.range 4).map fun x =>
    let e := n.t6.getD x ExchangerSetting.zero
    if n.isBound .exchanger x && n.value (20 + 2 * x) == 1 && e != ExchangerSetting.zero then
      min (n.requests.getD x 0) e.maxHeat
    else 0

/-- R82, R83: each turbine's maximum steam; 0 when it is not eligible. -/
def turbineClaims (n : Snapshot) : List Nat :=
  (List.range 2).map fun t =>
    let e := n.t5.getD t TurbineSetting.zero
    if n.isBound .turbine t && n.value (17 + t) == 1 && e != TurbineSetting.zero then e.maxSteam else 0

/-- R83: the steam that makes `rate` kW of electric power, rounded up; a negative rate counts as 0. -/
def steamFor (rate : Int) (efficiency : Nat) : Nat := ceilDiv ((max 0 rate).toNat * 100) efficiency

/-- The three parts of the split (5.3). -/
structure Split where
  heat : Nat
  turbine : Nat
  dump : Nat
  deriving DecidableEq, Repr

/-- R84, R85: the split of the pool. -/
def splitPool (mode : PlantMode) (pool demand need high : Nat) : Split :=
  match mode with
  | .heatFirst =>
    let h := min pool demand
    let t := min (pool - h) high
    ⟨h, t, pool - h - t⟩
  | .powerFirst =>
    let t1 := min pool need
    let h := min (pool - t1) demand
    let t := t1 + min (pool - t1 - h) (high - t1)
    ⟨h, t, pool - h - t⟩

/-! ## Stage 7: top-up -/

/-- The running top-up pass: shortfall, purchase left, top-up grants, top-up steam. -/
structure TopUp where
  short : Nat
  left : Nat
  grants : List Nat
  steam : Nat
  deriving DecidableEq, Repr

/-- R86, R87: one visit of the top-up pass, given the by-product grants. -/
def visitTopUp (byProduct : List Nat) (p : TopUp) (b : FillBoiler) : TopUp :=
  let g := byProduct.getD b.number 0
  let headroom := b.fmax - g
  let u := min headroom (min (ceilDiv (p.short * 100) b.efficiency) p.left)
  let raised := u * b.efficiency / 100
  if p.short = 0 ∨ p.left = 0 ∨ headroom = 0 ∨ (g = 0 ∧ u < b.fmin) then p
  else ⟨p.short - raised, p.left - u, p.grants.set b.number u, p.steam + raised⟩

/-- R86, R87: the top-up pass. -/
def topUpPass (n : Snapshot) (boilers : List FillBoiler) (byProduct : List Nat) (shortfall : Nat) : TopUp :=
  let start : TopUp := ⟨shortfall, n.t8.purchaseLimit, List.replicate 6 0, 0⟩
  if n.mode = .heatFirst ∧ n.t8.topUp = true then (fillOrder boilers).foldl (visitTopUp byProduct) start
  else start

/-! ## Stages 8 and 9: shares, flare, origin -/

/-- R88, R89: hands out a residue in number order, each share up to its claim. -/
def handResidue : Nat → List Nat → List Nat → List Nat
  | rest, c :: cs, x :: xs => (x + min rest (c - x)) :: handResidue (rest - min rest (c - x)) cs xs
  | _, _, xs => xs

/-- R88, R89: an amount shared in proportion to claims that sum to `whole`. -/
def proportionalShares (amount whole : Nat) (claims : List Nat) : List Nat :=
  let shares := claims.map fun c => amount * c / whole
  handResidue (amount - shares.sum) claims shares

/-- R90: the flare grant. -/
def flareGrant (n : Snapshot) (excess : Nat) : Nat :=
  if n.isBound .flare 0 && n.t7 != FlareSetting.zero &&
      n.bands.any (fun b => b == .high || b == .highHigh) then min excess n.t7.flareMax
  else 0

/-- R92: the origin per-mille; with no heat at all the one in force is kept. -/
def originPerMille (inForce heat topHeat : Nat) : Nat :=
  if heat + topHeat = 0 then inForce else 1000 * heat / (heat + topHeat)

/-- R96: an input record of a bound role and index was copied as SUBSTITUTED. -/
def anySubstituted (n : Snapshot) : Bool :=
  (List.range 31).any fun r =>
    n.isBound (recordOwner r).1 (recordOwner r).2 && (n.values.getD r (0, .absent)).2 == .substituted

/-- The computation: the summary it publishes (R65, R95, R96), given the origin per-mille in force. -/
def compute (n : Snapshot) (inForce : Nat) : Summary :=
  let available := (List.range 3).map (availableFuel n)
  let fuel := available.sum
  let boilers := eligibleBoilers n
  let fill := fillBoilers boilers fuel
  let pool := steamPool n boilers fill.grants
  let exchangers := exchangerClaims n
  let turbines := turbineClaims n
  let demand := exchangers.sum
  let x := if n.island then 0 else n.exportTarget
  let tol := if n.island then 0 else n.tolerance
  let site := n.value 28
  let cap := turbines.sum
  let need := min cap (steamFor ((x : Int) + site) n.t8.efficiency)
  let high := min cap (steamFor ((x : Int) + tol + site) n.t8.efficiency)
  let split := splitPool n.mode pool demand need high
  let top := topUpPass n boilers fill.grants (demand - split.heat)
  let flare := flareGrant n fill.rest
  { period := n.period, mode := n.mode, island := n.island, state := some n.state
    inputSubstituted := anySubstituted n, short := fill.banked
    heatShort := split.heat + top.steam < demand, exportShort := split.turbine < need
    available := available, corrections := [holderCorrection n 0, holderCorrection n 1], fuel := fuel
    byProduct := fill.grants, topUp := top.grants
    excess := fill.rest, flareGrant := flare, heldExcess := fill.rest - flare
    pool := pool, demand := demand, exportTarget := x, tolerance := tol, siteLoad := site
    turbineCap := cap, turbineNeed := need, turbineHigh := high
    heat := split.heat, turbine := split.turbine, dump := split.dump, topHeat := top.steam
    shortfall := demand - split.heat - top.steam
    exchangerShares := proportionalShares (split.heat + top.steam) demand exchangers
    turbineShares := proportionalShares split.turbine cap turbines
    rho := originPerMille inForce split.heat top.steam }

/-- R91: the 13 grants a completion hands over, in the order of R98. -/
def grantsOf (m : Summary) : List Nat :=
  (List.range 6).map (fun b => m.byProduct.getD b 0 + m.topUp.getD b 0) ++ m.turbineShares ++
    m.exchangerShares ++ [m.flareGrant]

end Sys2Proof.Machine
end

