-- ==== Sys2Proof/Machine/Flags.lean ====
section
/-! DEFINITION. The flags of the current export block (R131, R134) and how they are set. -/

namespace Sys2Proof.Machine

/-- R131: no flag set. -/
def BlockFlags.clear : BlockFlags :=
  { partialBlock := false, trip := false, island := false, clockStep := false, clockFree := false,
    inputDegraded := false }

/-- R134: HELD, SUBSTITUTED and NONE degrade a block. -/
def Quality.degraded : Quality → Bool
  | .held | .substituted | .absent => true
  | .good | .clamped => false

/-- R134: any of the grid records 27 to 29 is degraded as it stands. -/
def State.gridDegraded (s : State) : Bool :=
  (s.record 27).quality.degraded || (s.record 28).quality.degraded || (s.record 29).quality.degraded

/-- R131: the flags every opening sets from the state the block opens into. -/
def State.openingFlags (s : State) (f : BlockFlags) : BlockFlags :=
  { f with
    trip := f.trip || s.alloc.state == .tripped
    island := f.island || s.latch.island
    clockFree := f.clockFree || s.clock.state == .free }

/-- R134: the flags an accounting of seconds sets. -/
def State.accountingFlags (s : State) (f : BlockFlags) : BlockFlags :=
  { f with
    clockFree := f.clockFree || s.clock.state == .free
    inputDegraded := f.inputDegraded || s.gridDegraded }

/-- Changes the current block, when there is one. -/
def State.onBlock (s : State) (f : Block → Block) : State :=
  { s with tracker := { s.tracker with block := s.tracker.block.map f } }

/-- R134: sets flags in the current block. -/
def State.markBlock (s : State) (f : BlockFlags → BlockFlags) : State :=
  s.onBlock fun b => { b with flags := f b.flags }

end Sys2Proof.Machine
end

