-- ==== Sys2Proof/Machine/Governor.lean ====
section
/-! DEFINITION. The Demand Governor (chapter 6): the limits, and what becomes of a departing DEMAND. -/

namespace Sys2Proof.Machine

/-- The grant record of a number (R98). -/
def State.grant (s : State) (k : Nat) : GrantRecord := s.governor.grants.getD k GrantRecord.initial

/-- R113: a change is computed from the pending limit when one is present. -/
def GrantRecord.current (r : GrantRecord) : Nat := r.pending.getD r.limit

/-- R113: a new limit takes effect at once, or is held as the pending limit of a record on the line. -/
def GrantRecord.withLimit (onLine : Bool) (v : Nat) (r : GrantRecord) : GrantRecord :=
  if onLine then { r with pending := some v } else { r with limit := v }

/-- Changes every grant record, given its number and whether it is on the line. -/
def State.onGrants (s : State) (f : Nat → Bool → GrantRecord → GrantRecord) : State :=
  { s with governor :=
      { s.governor with grants := mapFrom (fun k r => f k (s.governor.onLine == some k) r) 0 s.governor.grants } }

/-- R108: an agreed service status of 0 sets the station's limit to 0; a status of 1 changes nothing. -/
def serviceStatus (k : Nat) (status : Int) (s : State) : State :=
  if status = 0 then s.onGrants fun i onLine r => if i = k then r.withLimit onLine 0 else r else s

/-- R109: a trip sets every limit to its station's trip setpoint. -/
def tripJump (s : State) : State :=
  s.onGrants fun k onLine r => r.withLimit onLine (s.tables.governing k).trip

/-- R111: the limit a start gives a record. -/
def startLimit (g : Governing) (r : GrantRecord) : Nat :=
  match r.lastRequest with
  | some q => limitTo g.maximum q.setpoint
  | none => g.trip

/-- R111: a start initialises every limit. -/
def initialiseLimits (s : State) : State :=
  s.onGrants fun k onLine r => r.withLimit onLine (startLimit (s.tables.governing k) r)

/-- R107: one move of a limit toward its grant by at most `ramp` times the period; a ramp of 0 moves it straight
there. -/
def rampLimit (ramp period limit grant : Nat) : Nat :=
  if ramp = 0 then grant
  else if limit ≤ grant then min grant (limit + ramp * period)
  else max grant (limit - ramp * period)

/-- R107: a completion stores the grants and, in RUNNING, moves every limit. -/
def takeGrants (grants : List Nat) (period : Nat) (s : State) : State :=
  s.onGrants fun k onLine r =>
    let stored := { r with grant := grants.getD k 0 }
    if s.alloc.state = .running then
      stored.withLimit onLine (rampLimit (s.tables.governing k).ramp period r.current stored.grant)
    else stored

/-- R106: the request a snapshot takes for an exchanger. -/
def exchangerRequest (s : State) (x : Nat) : Nat :=
  let e := s.tables.t6.getD x ExchangerSetting.zero
  match (s.grant (8 + x)).lastRequest with
  | some q => if s.now - q.time ≤ e.staleness * second then limitTo e.maxHeat q.setpoint else e.defaultRequest
  | none => e.defaultRequest

/-! ## A departing DEMAND -/

/-- R101: the grant record of the governed station a DEMAND is addressed to. -/
def governedRecord (s : State) (f : List Byte) : Option Nat :=
  (s.bindingOf (frameDestination f)).bind (fun b => grantIndex b.role b.index)

/-- R101: RUNNING or TRIPPED, and the station's mode CLAMP or REPLACE. -/
def governs (s : State) (k : Nat) : Bool :=
  s.alloc.state != .stopped && (s.tables.governing k).mode != .pass

/-- R4: the tags of a DEMAND, uninterpreted. -/
def demandTags (f : List Byte) : List Byte := (framePayload f).take (6 * frameTags f)

/-- R4: the setpoint body of a DEMAND: channel, flags, setpoint. -/
def demandBody (f : List Byte) : List Byte := (framePayload f).drop (6 * frameTags f)

/-- R4: the received setpoint S. -/
def demandSetpoint (f : List Byte) : Int := toSigned 4 (unbe (((demandBody f).drop 2).take 4))

/-- R102: the governed setpoint. -/
def governedSetpoint (mode : GovMode) (limit : Nat) (setpoint : Int) : Int :=
  match mode with
  | .pass => setpoint
  | .clamp => max 0 (min setpoint (limit : Int))
  | .replace => (limit : Int)

/-- R4: the reason codes of a tag. -/
def reasonHeld : Nat := 1
def reasonClamped : Nat := 2
def reasonReplaced : Nat := 3
def reasonTripped : Nat := 4

/-- R4: a tag: governing station, reason, original setpoint. -/
def tagBytes (station : Byte) (reason : Nat) (original : Int) : List Byte :=
  [station] ++ field 1 reason ++ signedField 4 original

/-- R4: a setpoint body. -/
def bodyBytes (channel flags : Byte) (setpoint : Int) : List Byte :=
  [channel, flags] ++ signedField 4 setpoint

/-- R11, R103, R105: a DEMAND with a new payload, both checks recomputed; its other header fields stand as received,
the Spare byte among them, which R3 has sent as 0 (log entry 31). -/
def rebuildDemand (f : List Byte) (tags : Nat) (payload : List Byte) : List Byte :=
  buildFrame (frameDestination f) (frameSource f) kindDemand tags (frameSeq f) (frameSpare f) payload

/-- R103: a DEMAND whose setpoint the Governor changed. -/
def changedDemand (s : State) (mode : GovMode) (f : List Byte) (setpoint : Int) : List Byte :=
  let channel := (demandBody f).getD 0 0
  let flags := (demandBody f).getD 1 0
  let reason := if s.alloc.state = .tripped then reasonTripped
    else if mode = .replace then reasonReplaced else reasonClamped
  if frameTags f < 3 then
    rebuildDemand f (frameTags f + 1)
      (tagBytes s.pins.station reason (demandSetpoint f) ++ demandTags f ++ bodyBytes channel flags setpoint)
  else rebuildDemand f 3 (demandTags f ++ bodyBytes channel (flags ||| 1#8) setpoint)

/-- R105: the frame sent for an unusable DEMAND held at the limit. -/
def heldDemand (station : Byte) (f : List Byte) (limit : Nat) : List Byte :=
  if demandConsistent f then
    if frameTags f < 3 then
      rebuildDemand f (frameTags f + 1)
        (tagBytes station reasonHeld 0 ++ demandTags f ++ bodyBytes 1 0 limit)
    else rebuildDemand f 3 (demandTags f ++ bodyBytes 1 1 limit)
  else rebuildDemand f 1 (tagBytes station reasonHeld 0 ++ bodyBytes 1 0 limit)

/-- Changes one grant record. -/
def State.setGrant (s : State) (k : Nat) (f : GrantRecord → GrantRecord) : State :=
  { s with governor := { s.governor with grants := s.governor.grants.modify k f } }

/-- R104: a usable DEMAND records its request and the setpoint it carries out. -/
def recordRequest (s : State) (k : Nat) (received passed : Int) : State :=
  s.setGrant k fun r => { r with lastRequest := some ⟨received, s.now⟩, lastPassed := some passed }

/-- R113: the record is on the line until the frame has left. -/
def State.putOnLine (s : State) (k : Nat) : State :=
  { s with governor := { s.governor with onLine := some k } }

/-- R101 to R105: the frame a departing DEMAND is sent as, and what the Governor records. -/
def governDemand (s : State) (f : List Byte) (usable : Bool) : List Byte × State :=
  match governedRecord s f with
  | none => (f, s)
  | some k =>
    if usable then
      let received := demandSetpoint f
      if governs s k then
        let passed := governedSetpoint (s.tables.governing k).mode (s.grant k).limit received
        (if passed = received then f else changedDemand s (s.tables.governing k).mode f passed,
          (recordRequest s k received passed).putOnLine k)
      else (f, recordRequest s k received received)
    else if governs s k then
      (heldDemand s.pins.station f (s.grant k).limit,
        (s.setGrant k fun r => { r with lastPassed := some ((s.grant k).limit : Int) }).putOnLine k)
    else (f, s)

/-- R113: when the frame has left, the pending limit becomes the governed limit. -/
def settleLine (s : State) : State :=
  match s.governor.onLine with
  | none => s
  | some k =>
    { s with governor :=
        { grants := s.governor.grants.modify k fun r => { r with limit := r.current, pending := none }
          onLine := none } }

end Sys2Proof.Machine
end

