-- ==== Sys2Proof/Machine/Tracker.lean ====
section
/-! DEFINITION. The Export Tracker (chapter 8): the schedule, the current block, its close, the target. -/

namespace Sys2Proof.Machine

/-- R132, R133: seconds added to a block's elapsed seconds; past 65 535 the spec states none (log entry 12). -/
def addElapsed (elapsed seconds : Nat) : Nat :=
  if elapsed + seconds ≤ 65535 then elapsed + seconds else (Config.elapsedBeyond (elapsed + seconds)).toNat

/-- R132, R133, R134: `seconds` of net export at rate `e` go to the current block, and mark it when there are any
(log entry 15). -/
def accountSeconds (e : Int) (seconds : Nat) (s : State) : State :=
  s.onBlock fun b =>
    { b with
      delivered := b.delivered + e * (seconds : Int)
      elapsed := addElapsed b.elapsed seconds
      flags := if seconds = 0 then b.flags else s.accountingFlags b.flags }

/-- R131: a block opens at the clock's current block and day on its schedule entry. -/
def openBlock (elapsed : Nat) (flags : BlockFlags) (s : State) : State :=
  let b : Block :=
    { index := s.clockBlock
      day := s.clock.day
      entry := s.tables.t9.getD s.clockBlock none
      delivered := 0
      elapsed := elapsed
      flags := s.openingFlags flags
      handedTarget := 0
      handedTolerance := 0 }
  { s with tracker := { s.tracker with block := some b } }

/-- R136: the class of a deviation. -/
def settleClassOf (entry : Option ExportEntry) (deviation : Int) (toleranceKwh : Nat) : SettleClass :=
  match entry with
  | none => .unscheduled
  | some _ =>
    if (toleranceKwh : Int) < deviation then .over
    else if deviation < -(toleranceKwh : Int) then .under
    else .within

/-- R136: a block reduced to a settlement record, its number and lost-before given by the append. -/
def settle (b : Block) (number lostBefore : Nat) : Settlement :=
  let targetKwh := match b.entry with | some e => e.target / 2 | none => 0
  let toleranceKwh := match b.entry with | some e => e.tolerance / 2 | none => 0
  let actual := Int.tdiv b.delivered 3600
  { number := number, index := b.index, day := b.day, targetKwh := targetKwh, toleranceKwh := toleranceKwh
    actualKwh := actual, deviation := actual - (targetKwh : Int)
    settleClass := settleClassOf b.entry (actual - (targetKwh : Int)) toleranceKwh
    flags := b.flags, lostBefore := lostBefore }

/-- R137: a block's record joins the settlement queue. -/
def appendSettlement (b : Block) (s : State) : State :=
  let t := s.tracker
  let lost := if 16 ≤ t.queue.length then saturating 255 t.pendingLoss 1 else t.pendingLoss
  let queue := pushCapped 16 t.queue (settle b t.nextNumber lost)
  let s1 : State := { s with tracker :=
    { t with queue := queue, nextNumber := (t.nextNumber + 1) % 65536, pendingLoss := 0 } }
  s1.notice .settlementReady (queue.length : Int)

/-- R136: the current block closes; there is then no current block. -/
def closeBlock (s : State) : State :=
  match s.tracker.block with
  | none => s
  | some b => appendSettlement b { s with tracker := { s.tracker with block := none } }

/-- R133: the part of the period in progress that has run and is not yet given to a block. -/
def unattributed (s : State) : Nat :=
  match s.alloc.period with
  | none => 0
  | some p => s.secondsSince p.start - s.tracker.attributed

/-- R133: a part-period attribution to the current block. -/
def attributePart (s : State) : State :=
  let a := unattributed s
  let s1 := accountSeconds (s.recordValue 27) a s
  { s1 with tracker := { s1.tracker with attributed := s1.tracker.attributed + a } }

/-- R132: the ended period's seconds that no block has yet, given out at a boundary. -/
def accountBoundary (ended : Nat) (s : State) : State :=
  let u := ended - s.tracker.attributed
  let e := s.recordValue 27
  let s1 :=
    match s.tracker.block with
    | none => s
    | some b =>
      if b.index = s.clockBlock ∧ b.day = s.clock.day then accountSeconds e u s
      else
        let inNew := min (s.clock.seconds - s.clockBlock * 1800) u
        accountSeconds e inNew (openBlock 0 BlockFlags.clear (closeBlock (accountSeconds e (u - inNew) s)))
  { s1 with tracker := { s1.tracker with attributed := 0 } }

/-- R135: the export target and tolerance for a period of length `period`. -/
def exportTarget (corr period : Nat) (b : Block) : Nat × Nat :=
  match b.entry with
  | none => (0, 0)
  | some en =>
    let need : Int := (en.target : Int) * 1800 - b.delivered
    let remaining : Nat := max (1800 - b.elapsed) period
    let x := Int.tdiv need (remaining : Int)
    let low : Int := (en.target : Int) - (corr : Int)
    let high : Int := (en.target : Int) + (corr : Int)
    ((max 0 (max low (min x high))).toNat, en.tolerance)

/-- R135: what is handed over for the period that begins: 0 and 0 while there is no block. -/
def targetFor (period : Nat) (s : State) : Nat × Nat :=
  match s.tracker.block with
  | none => (0, 0)
  | some b => exportTarget s.tables.t8.correction period b

/-- R135: the handed target and tolerance are recorded in the block. -/
def handTarget (x tol : Nat) (s : State) : State :=
  s.onBlock fun b => { b with handedTarget := x, handedTolerance := tol }

/-- R129: a day advance of `n` days rolls the schedule. -/
def rollSchedule (n : Nat) (s : State) : State :=
  { s with tables := { s.tables with t9 :=
      (if n = 1 then s.tables.t9.drop 48 else List.replicate 48 none) ++ List.replicate 48 none } }

/-- R138: a clock step closes the current block and opens one at the clock's new time. -/
def trackerClockStep (s : State) : State :=
  if s.alloc.state = .stopped then s
  else
    let s1 := attributePart s
    let s2 := closeBlock (s1.markBlock fun f => { f with partialBlock := true, clockStep := true })
    openBlock (s2.clock.seconds - s2.clockBlock * 1800)
      { BlockFlags.clear with partialBlock := true, clockStep := true } s2

/-- R139: a start opens a PARTIAL block. -/
def trackerStart (s : State) : State :=
  let s1 : State := { s with tracker := { s.tracker with attributed := 0 } }
  openBlock (s1.clock.seconds - s1.clockBlock * 1800) { BlockFlags.clear with partialBlock := true } s1

/-- R139: a stop attributes the part of the period that has run and closes the current block. -/
def trackerStop (s : State) : State :=
  closeBlock ((attributePart s).markBlock fun f => { f with partialBlock := true })

/-- R142: RESTART SETTLEMENT-QUEUE. -/
def restartSettlement (s : State) : State :=
  { s with tracker := { s.tracker with
      queue := [], pendingLoss := saturating 255 s.tracker.pendingLoss s.tracker.queue.length } }

end Sys2Proof.Machine
end

