-- ==== Sys2Proof/Machine/Latch.lean ====
section
/-! DEFINITION. The Trip Latch (chapter 7): the cause set, the overlay, the moves of the allocation state. -/

namespace Sys2Proof.Machine

/-- R116: the set value of a cause set. -/
def setValue (causes : List CauseEntry) : Nat := (causes.map fun c => c.cause.code).sum

/-- R116: the cause is in the set. -/
def State.hasCause (s : State) (c : Cause) : Bool := s.latch.causes.any fun e => e.cause == c

/-- R121: the first cause that enters while RUNNING trips the allocation. -/
def tripIfRunning (s : State) : State :=
  if s.alloc.state = .running then
    (tripJump { s with alloc := { s.alloc with state := .tripped } }).markBlock fun f => { f with trip := true }
  else s

/-- R120: a cause is raised. -/
def raiseCause (c : Cause) (s : State) : State :=
  if s.hasCause c then s
  else
    let causes := s.latch.causes ++ [⟨c, s.stamp⟩]
    let s1 : State := { s with latch := { s.latch with
      causes := causes
      firstCause := if s.latch.causes = [] then some c else s.latch.firstCause } }
    tripIfRunning (s1.notice .trip ((setValue causes + 16 * c.code : Nat) : Int))

/-- R118: the agreed breaker status moves the ISLAND overlay. -/
def breakerStatus (status : Int) (s : State) : State :=
  if status = 0 then
    if s.latch.island then s
    else
      let s1 : State := { s with latch := { s.latch with island := true } }
      if s.alloc.state = .stopped then s1 else s1.markBlock fun f => { f with island := true }
  else { s with latch := { s.latch with island := false } }

/-- R119: the agreed safety trip demand; 0 raises nothing and removes nothing. -/
def safetyStatus (status : Int) (s : State) : State :=
  if status = 1 then raiseCause .safety s else s

end Sys2Proof.Machine
end

