-- ==== Sys2Proof/Machine/HolderMonitor.lean ====
section
/-! DEFINITION. The Holder Monitor (chapter 3): bands, and the converter blow window. -/

namespace Sys2Proof.Machine

/-! ## Bands -/

/-- The settings of a holder (R46). -/
def State.holderSetting (s : State) (h : Nat) : HolderSetting := s.tables.t3.getD h HolderSetting.zero

/-- The state of a holder (R45). -/
def State.holderState (s : State) (h : Nat) : HolderState := s.holder.holders.getD h HolderState.initial

/-- R46: an entry whose four thresholds are all 0 is unconfigured. -/
def HolderSetting.configured (e : HolderSetting) : Bool :=
  !(e.lowLow == 0 && e.low == 0 && e.high == 0 && e.highHigh == 0)

/-- R47: the band assigned from UNKNOWN. -/
def assignBand (e : HolderSetting) (level : Int) : Band :=
  if level ≤ e.lowLow then .lowLow
  else if level ≤ e.low then .low
  else if level < e.high then .normal
  else if level < e.highHigh then .high
  else .highHigh

/-- R47: crossing downward, one boundary after the other. -/
def bandDown (e : HolderSetting) (level : Int) : Band → Band
  | .highHigh => if level ≤ (e.highHigh : Int) - e.hysteresis then
      (if level ≤ (e.high : Int) - e.hysteresis then
        (if level ≤ e.low then (if level ≤ e.lowLow then .lowLow else .low) else .normal) else .high)
      else .highHigh
  | .high => if level ≤ (e.high : Int) - e.hysteresis then
      (if level ≤ e.low then (if level ≤ e.lowLow then .lowLow else .low) else .normal) else .high
  | .normal => if level ≤ e.low then (if level ≤ e.lowLow then .lowLow else .low) else .normal
  | .low => if level ≤ e.lowLow then .lowLow else .low
  | b => b

/-- R47: crossing upward, one boundary after the other. -/
def bandUp (e : HolderSetting) (level : Int) : Band → Band
  | .lowLow => if (e.lowLow : Int) + e.hysteresis ≤ level then
      (if (e.low : Int) + e.hysteresis ≤ level then
        (if (e.high : Int) ≤ level then (if (e.highHigh : Int) ≤ level then .highHigh else .high) else .normal)
        else .low)
      else .lowLow
  | .low => if (e.low : Int) + e.hysteresis ≤ level then
      (if (e.high : Int) ≤ level then (if (e.highHigh : Int) ≤ level then .highHigh else .high) else .normal)
      else .low
  | .normal => if (e.high : Int) ≤ level then (if (e.highHigh : Int) ≤ level then .highHigh else .high)
      else .normal
  | .high => if (e.highHigh : Int) ≤ level then .highHigh else .high
  | b => b

/-- R47, R48: the band a level moves to; an unconfigured holder stays UNKNOWN. With a hysteresis of 0 a level on a
threshold crosses it in both directions, so that R47 moves the band at each evaluation, and R48's sentence on a repeated
substitution does not hold (log entry 33). -/
def nextBand (e : HolderSetting) (band : Band) (level : Int) : Band :=
  if e.configured then
    match band with
    | .unknown => assignBand e level
    | b => if bandDown e level b = b then bandUp e level b else bandDown e level b
  else .unknown

/-- R116: the cause a holder in LOWLOW raises. -/
def lowLowCause (h : Nat) : Cause := if h = 0 then .lowLow0 else .lowLow1

/-- R48, R49: a level handed over is evaluated, and a change of band handed on. -/
def evaluateLevel (h : Nat) (level : Int) (s : State) : State :=
  let old := (s.holderState h).band
  let new := nextBand (s.holderSetting h) old level
  let s1 : State := { s with holder := { s.holder with
    holders := s.holder.holders.set h { band := new, level := some level } } }
  if new = old then s1
  else
    let s2 := s1.notice .holderBand ((16 * h + new.code : Nat) : Int)
    if new = .lowLow then raiseCause (lowLowCause h) s2 else s2

/-- R56: the effective target of a holder. -/
def effectiveTarget (s : State) (h : Nat) : Nat :=
  let e := s.holderSetting h
  if h = 1 ∧ s.holder.window.state ≠ .idle then e.target - e.blowOffset else e.target

/-! ## The blow window -/

/-- R52: a blow starts. -/
def startBlow (s : State) : State :=
  let w := s.holder.window
  let previous := match w.start with | some b => some b.time | none => w.keptStart
  let maxBlow := (s.holderSetting 1).maxBlow
  { s with holder := { s.holder with window :=
    { state := .blowing
      stuck := w.stuck
      start := some ⟨s.now, s.stamp⟩
      previousStart := previous
      lastInterval := match previous with | some t => some (s.secondsSince t) | none => w.lastInterval
      keptStart := w.keptStart
      limitTimer := if maxBlow = 0 then none else some ⟨s.now + maxBlow * second, maxBlow⟩
      tailDue := none } } }

/-- R55: one entry joins the blow log. -/
def logBlow (duration : Nat) (ending : BlowEnd) (s : State) : State :=
  let w := s.holder.window
  let entry : BlowEntry :=
    { start := w.start.bind (fun b => b.clock)
      duration := min 65535 duration
      interval := if w.previousStart = none then none else w.lastInterval
      ending := ending }
  { s with holder := { s.holder with log := pushCapped 8 s.holder.log entry } }

/-- R53: a blow ends, normally or at its limit. -/
def endBlow (duration : Nat) (ending : BlowEnd) (s : State) : State :=
  let w := s.holder.window
  let s1 := logBlow duration ending s
  let post := (s.holderSetting 1).postBlow
  let kept := match w.start with | some b => some b.time | none => w.keptStart
  let toTail := ending = .normal ∧ post ≠ 0
  { s1 with holder := { s1.holder with window :=
    { w with
      state := if toTail then .tail else .idle
      stuck := ending = .limit
      start := if toTail then w.start else none
      keptStart := kept
      limitTimer := none
      tailDue := if toTail then some (s.now + post * second) else none } } }

/-- R51: the agreed blow status moves the window. -/
def blowStatus (status : Int) (s : State) : State :=
  let w := s.holder.window
  if status = 1 then
    match w.state with
    | .idle => if w.stuck then s else startBlow s
    | .blowing => s
    | .tail => startBlow s
  else
    match w.state with
    | .idle => { s with holder := { s.holder with window := { w with stuck := false } } }
    | .blowing => endBlow (match w.start with | some b => s.secondsSince b.time | none => 0) .normal s
    | .tail => s

/-- R53: the blow limit timer expires. -/
def blowLimitEffect (s : State) : State :=
  match s.holder.window.limitTimer with
  | some t => if s.holder.window.state = .blowing then endBlow t.duration .limit (s.advanceTo t.due) else s
  | none => s

/-- R51: the tail timer expires. -/
def tailEffect (s : State) : State :=
  match s.holder.window.tailDue with
  | some due =>
    if s.holder.window.state = .tail then
      let s1 := s.advanceTo due
      { s1 with holder := { s1.holder with window :=
        { s1.holder.window with state := .idle, start := none, tailDue := none } } }
    else s
  | none => s

/-- BLOW_LIMIT_EXPIRY (R53). -/
def execBlowLimitExpiry (s : State) : Host.Outcome State Fault Refusal := act s blowLimitEffect

/-- TAIL_EXPIRY (R51). -/
def execTailExpiry (s : State) : Host.Outcome State Fault Refusal := act s tailEffect

end Sys2Proof.Machine
end

