-- ==== Sys2Proof/Machine/Registry.lean ====
section
/-! DEFINITION. The Input Registry (chapter 2): arrivals, agreement, staleness, and what is handed on. -/

namespace Sys2Proof.Machine

/-! ## What is handed on (R35) -/

/-- R35: an agreed status handed to the block that acts on it. -/
def handStatus (r : Nat) (v : Int) (s : State) : State :=
  match recordOwner r with
  | (.converter, _) => blowStatus v s
  | (.grid, _) => breakerStatus v s
  | (.safety, _) => safetyStatus v s
  | (role, i) =>
    match grantIndex role i with
    | some k => serviceStatus k v s
    | none => s

/-- R30: records 6 and 7 are the holder levels. -/
def isLevelRecord (r : Nat) : Bool := r == 6 || r == 7

/-! ## Ageing -/

/-- R36, R37: whether a record's age exceeds its staleness limit. -/
def isStale (s : State) (r : Nat) : Bool :=
  match (s.record r).arrival with
  | some t => (s.inputSetting r).staleness * second < s.now - t
  | none => false

/-- R36, R37: a stale record takes its substitute value; entering SUBSTITUTED raises a notice event (R35). -/
def substitute (r : Nat) (s : State) : State :=
  let old := s.record r
  let sub := (s.inputSetting r).substitute
  let s1 := s.setRecord r fun x =>
    { x with value := sub, quality := .substituted
             candidate := if isStatusRecord r then none else x.candidate
             agreed := if isStatusRecord r then false else x.agreed }
  let s2 := if old.quality = .substituted then s1 else s1.notice .inputSubstituted (r : Int)
  if isLevelRecord r then evaluateLevel (r - 6) sub s2
  else if isStatusRecord r ∧ old.value ≠ sub then handStatus r sub s2
  else s2

/-- R36: a record judged at a boundary whose ended period began at `periodStart`. -/
def judgeRecord (periodStart : Nat) (s : State) (r : Nat) : State :=
  if (s.record r).quality = .absent then s
  else if isStale s r then substitute r s
  else
    match (s.record r).arrival with
    | some t => if t < periodStart then s.setRecord r fun x => { x with quality := .held } else s
    | none => s

/-- R36: every record, in ascending number (log entry 13). -/
def judgeAll (periodStart : Nat) (s : State) : State := (List.range 31).foldl (judgeRecord periodStart) s

/-- R37: a holder level judged when a level arrives; HELD is given at boundaries only. -/
def judgeLevel (s : State) (r : Nat) : State :=
  if (s.record r).quality = .absent then s else if isStale s r then substitute r s else s

/-! ## Arrivals -/

/-- R33: a value limited to the record's range, with its quality. -/
def clampToRange (e : InputSetting) (v : Int) : Int × Quality :=
  if v < e.low then (e.low, .clamped) else if e.high < v then (e.high, .clamped) else (v, .good)

/-- R33, R37: an arrival at a measurement record; a level is evaluated and both levels judged (log entry 14). -/
def measurementArrival (r : Nat) (v : Int) (s : State) : State :=
  let taken := clampToRange (s.inputSetting r) v
  let s1 := s.setRecord r fun x => { x with value := taken.1, quality := taken.2, arrival := some s.now }
  if isLevelRecord r then judgeLevel (judgeLevel (evaluateLevel (r - 6) taken.1 s1) 6) 7 else s1

/-- R34: an arrival at a status record: a refresh, a candidate or an adoption. -/
def statusArrival (r : Nat) (v : Int) (s : State) : State :=
  if v = 0 ∨ v = 1 then
    let old := s.record r
    if old.agreed = true ∧ old.value = v then
      s.setRecord r fun x => { x with quality := .good, arrival := some s.now, candidate := none }
    else if old.candidate = some v then
      handStatus r v (s.setRecord r fun x =>
        { x with value := v, quality := .good, arrival := some s.now, candidate := none, agreed := true })
    else s.setRecord r fun x => { x with candidate := some v }
  else s

/-- R32: an arrival at a record. -/
def arrivalAt (r : Nat) (v : Int) (s : State) : State :=
  if isStatusRecord r then statusArrival r v s else measurementArrival r v s

/-- R30: the records of a role and index, in ascending number. -/
def recordsOf (role : Role) (index : Nat) : List Nat :=
  (List.range 31).filter fun r => recordOwner r == (role, index)

/-- R32: a SAMPLE's entries taken as arrivals at the records of the station that sent it. -/
def takeSample (entries : List SampleEntry) (role : Role) (index : Nat) (s : State) : State :=
  (recordsOf role index).foldl
    (fun s r => match lastOnChannel entries (recordChannel r) with
      | some v => arrivalAt r v s
      | none => s) s

/-- R26: the candidates of a rebound role and index are discarded. -/
def discardCandidates (role : Role) (index : Nat) (s : State) : State :=
  (recordsOf role index).foldl
    (fun s r => if isStatusRecord r then s.setRecord r fun x => { x with candidate := none } else s) s

end Sys2Proof.Machine
end

