-- ==== Sys2Proof/Machine/Allocation.lean ====
section
/-! DEFINITION. The Allocation Engine (chapters 4 and 5): the period, the snapshot, the completion, the origin
counters, start, stop and resume. -/

namespace Sys2Proof.Machine

/-! ## The boundary -/

/-- R93: the heat delivered in an ended period of so many seconds, in kJ. -/
def deliveredHeat (ended : Nat) (s : State) : Nat :=
  ((List.range 4).map fun x =>
    if s.isBound .exchanger x then limitTo 1000000 (s.recordValue (19 + 2 * x)) else 0).sum * ended

/-- R93: the origin counters saturate at 2⁶⁴ − 1. -/
def originTop : Nat := 18446744073709551615

/-- R93: the heat of an ended period split between REC and TOP. -/
def countOrigin (ended : Nat) (s : State) : State :=
  let q := deliveredHeat ended s
  let recovered := q * s.alloc.rho / 1000
  { s with alloc := { s.alloc with
      recCounter := saturating originTop s.alloc.recCounter recovered
      topCounter := saturating originTop s.alloc.topCounter (q - recovered) } }

/-- R63: the roles whose bound indices the snapshot copies. -/
def Role.inSnapshot : Role → Bool
  | .gasSource | .holder | .converter | .boiler | .recovery | .turbine | .exchanger | .flare | .grid | .safety => true
  | _ => false

/-- R63: the snapshot of a boundary. -/
def takeSnapshot (x tol period : Nat) (s : State) : Snapshot :=
  { values := (List.range 31).map s.readRecord
    t2 := s.tables.t2, t3 := s.tables.t3, t4 := s.tables.t4, t5 := s.tables.t5, t6 := s.tables.t6
    t7 := s.tables.t7, t8 := s.tables.t8
    bands := s.holder.holders.map fun h => h.band
    targets := [effectiveTarget s 0, effectiveTarget s 1]
    bound := (s.bindings.filter fun b => b.role.inSnapshot).map fun b => (b.role, b.index)
    requests := (List.range 4).map (exchangerRequest s)
    exportTarget := x, tolerance := tol
    mode := s.latch.mode, island := s.latch.island, state := s.alloc.state, period := period
    takenAt := s.now }

/-- R63, R93, R132: what the blocks do with a boundary before the snapshot: the records are judged, the heat is
counted, the ended period is accounted (log entry 13). -/
def accountPeriod (ended : Period) (s : State) : State :=
  accountBoundary ended.length (countOrigin ended.length (judgeAll ended.start s))

/-- R62, R63, R135: the rest of a boundary: the target is handed over, the snapshot taken, the timer restarted. -/
def openPeriod (s : State) : State :=
  let period := s.tables.t8.period
  let target := targetFor period s
  let s1 := handTarget target.1 target.2 s
  { s1 with alloc := { s1.alloc with
      period := some ⟨period, s1.now⟩
      computing := some (takeSnapshot target.1 target.2 period s1) } }

/-- R62, R64: the period timer expires; it never does so while a computation is in flight (log entry 19). -/
def boundaryEffect (s : State) : State :=
  match s.alloc.period, s.alloc.computing with
  | some p, none => openPeriod (accountPeriod p (s.advanceTo (p.start + p.length * second)))
  | _, _ => s

/-! ## The completion -/

/-- R65, R91, R92, R107: a computation completes and publishes in one step. -/
def completionEffect (s : State) : State :=
  match s.alloc.computing with
  | none => s
  | some n =>
    let m := compute n s.alloc.rho
    takeGrants (grantsOf m) n.period
      { s with alloc := { s.alloc with computing := none, summary := m, rho := m.rho } }

/-! ## Start, stop, resume -/

/-- R60: the codes of the failing conditions of START-ALLOCATION, in ascending order. -/
def startUnmet (s : State) : List Nat :=
  (if s.clock.state = .valid then [] else [1]) ++
  (if (List.range 3).any (s.isBound .gasSource) then [] else [2]) ++
  (if (List.range 6).any (s.isBound .boiler) then [] else [3]) ++
  (if s.isBound .grid 0 then [] else [4]) ++
  (if s.alloc.settingsLoaded then [] else [5]) ++
  (if s.latch.causes = [] then [] else [6])

/-- R61, R111, R139: a start taken. -/
def startEffect (s : State) : State :=
  let s1 : State := { s with alloc := { s.alloc with
    state := .running, period := some ⟨s.tables.t8.period, s.now⟩ } }
  trackerStart (initialiseLimits s1)

/-- R61, R112, R139: a stop taken. -/
def stopEffect (s : State) : State :=
  let s1 := trackerStop s
  { s1 with alloc := { s1.alloc with state := .stopped, period := none, computing := none } }

/-- R124: every input record of every bound gas source has quality GOOD or CLAMPED. -/
def gasInputsSound (s : State) : Bool :=
  (List.range 6).all fun r =>
    !s.isBound .gasSource (r / 2) || (s.record r).quality == .good || (s.record r).quality == .clamped

/-- R124: the codes of the failing conditions of RESUME, in ascending order. -/
def resumeUnmet (s : State) : List Nat :=
  (if s.alloc.state = .tripped ∨ (s.alloc.state = .stopped ∧ s.latch.causes ≠ []) then [] else [1]) ++
  (if (s.holderState 0).band ≠ .lowLow ∧ (s.holderState 1).band ≠ .lowLow ∧ s.recordValue 30 = 0 then [] else [2]) ++
  (if s.port.ringState = .closed then [] else [3]) ++
  (if gasInputsSound s then [] else [4])

/-- R125: a RESUME taken. -/
def resumeEffect (s : State) : State :=
  let s1 : State := { s with latch := { s.latch with causes := [], firstCause := none } }
  let s2 := s1.notice .resumed (setValue s.latch.causes : Int)
  if s.alloc.state = .tripped then { s2 with alloc := { s2.alloc with state := .running } } else s2

/-- PERIOD_BOUNDARY (R62). -/
def execPeriodBoundary (s : State) : Host.Outcome State Fault Refusal := act s boundaryEffect

/-- COMPUTATION_COMPLETION (R65). -/
def execComputationCompletion (s : State) : Host.Outcome State Fault Refusal := act s completionEffect

end Sys2Proof.Machine
end

