-- ==== Sys2Proof/Machine/BillingUnit.lean ====
section
/-! DEFINITION. The Billing Unit (chapter 10): readings, outcomes, account changes, the close. -/

namespace Sys2Proof.Machine

/-- An account's settings (R157). -/
def State.accountSetting (s : State) (a : Nat) : AccountSetting := s.tables.t12.getD a AccountSetting.zero

/-- An account (R159). -/
def State.account (s : State) (a : Nat) : Account := s.billing.accounts.getD a Account.initial

/-- Changes one account. -/
def State.setAccount (s : State) (a : Nat) (f : Account → Account) : State :=
  { s with billing := { s.billing with accounts := s.billing.accounts.modify a f } }

/-! ## Readings -/

/-- R165: a reading taken enters the period data. -/
def PeriodData.enter (p : PeriodData) (r : Reading) : PeriodData :=
  let here : ReadingStamp := ⟨r.register, r.stamp⟩
  { p with first := some (p.first.getD here), last := some here }

/-- R161: the reading taken as the baseline, with the counters as they stand (R94). -/
def State.baselineFrom (s : State) (r : Reading) : Baseline :=
  ⟨r.register, r.time, s.alloc.recCounter, s.alloc.topCounter⟩

/-- R161: a reading taken as the baseline; `rebase` tells a rebase from a first baseline. -/
def takeBaseline (rebase : Bool) (r : Reading) (s : State) : State :=
  s.setAccount r.account fun a =>
    let p := a.period.enter r
    { a with state := .active, baseline := some (s.baselineFrom r), implausible := 0, misses := 0
             period := if rebase then { p with gap := true } else { p with baseline := true } }

/-- R162: the plausibility limit in kWh. -/
def plausibilityLimit (rate elapsed : Nat) : Nat := ceilDiv (rate * elapsed * 5) 14400

/-- R162: the delta of a register against the baseline, through a wrap when it is lower. -/
def readingDelta (base register : Nat) : Nat :=
  if base ≤ register then register - base else register + 100000000 - base

/-- R163: a rejected reading. -/
def rejectReading (r : Reading) (s : State) : State :=
  s.setAccount r.account fun a =>
    { a with implausible := a.implausible + 1
             period := { a.period with rejected := saturating 65535 a.period.rejected 1 } }

/-- R164: the fraction, in per-mille, of the heat between two readings that was recovered. -/
def originFraction (deltaRec deltaTop : Nat) : Nat :=
  if deltaRec + deltaTop = 0 then 1000 else 1000 * deltaRec / (deltaRec + deltaTop)

/-- R165: the tariff band of a reading. -/
def tariffBand (s : State) (r : Reading) : Nat :=
  s.tables.t10.getD (48 * r.dayType.code + r.stamp.seconds / 1800) 0

/-- R165: adds to an accumulator, which stops at 4 294 967 295. -/
def fileEnergy (place amount : Nat) (energies : List Nat) : List Nat :=
  energies.modify place fun e => saturating 4294967295 e amount

/-- R164, R165: an accepted reading, split by origin and filed under its band. -/
def acceptReading (base : Baseline) (delta : Nat) (r : Reading) (s : State) : State :=
  let f := originFraction (s.alloc.recCounter - base.recSnap) (s.alloc.topCounter - base.topSnap)
  let recovered := delta * f / 1000
  let band := tariffBand s r
  s.setAccount r.account fun a =>
    { a with state := .active, baseline := some (s.baselineFrom r), implausible := 0, misses := 0
             energies := fileEnergy (2 * band + 1) (delta - recovered) (fileEnergy (2 * band) recovered a.energies)
             period := a.period.enter r }

/-- R161, R162: a reading judged against its account as it stands. -/
def takeReading (r : Reading) (s : State) : State :=
  let a := s.account r.account
  if (s.accountSetting r.account).enabled then
    match a.baseline with
    | none => takeBaseline false r s
    | some base =>
      if 3 ≤ a.implausible then takeBaseline true r s
      else
        let elapsed := (r.time - base.time) / second
        let delta := readingDelta base.register r.register
        if delta ≤ plausibilityLimit (s.accountSetting r.account).rate elapsed then acceptReading base delta r s
        else rejectReading r s
  else s

/-! ## Outcomes of the Meter Sweep Engine -/

/-- R152: the consecutive miss count and the state after a MISSED outcome. -/
def missAccount (a : Account) : Account :=
  let counted := { a with period := { a.period with missed := saturating 65535 a.period.missed 1 } }
  match a.state with
  | .disabled => a
  | .silent => { counted with misses := saturating 255 a.misses 1 }
  | _ =>
    if a.misses < 7 then { counted with misses := a.misses + 1 }
    else { counted with misses := saturating 255 a.misses 1, state := .silent }

/-- R152, R166: a MISSED outcome handed to the Billing Unit. -/
def billMissed (account : Nat) (s : State) : State :=
  let before := (s.account account).state
  let s1 := s.setAccount account missAccount
  if before ≠ .silent ∧ (s1.account account).state = .silent then s1.notice .accountSilent (account : Int) else s1

/-- R166: a METER-FAULT outcome handed to the Billing Unit. -/
def billFault (account : Nat) (s : State) : State :=
  s.setAccount account fun a =>
    if a.state = .disabled then a
    else { a with period := { a.period with fault := saturating 65535 a.period.fault 1 } }

/-! ## Changes of settings -/

/-- R158, R167: an account whose meter changes loses its baseline and is marked GAP. -/
def Account.rebound (a : Account) : Account :=
  { a with state := .unread, baseline := none, implausible := 0, misses := 0
           period := { a.period with gap := true } }

/-- R158: what a taken change of an account's settings does to the account. A disabling leaves the two counts as they
are, for its row names no effect on them (log entry 30). -/
def changedAccount (old new : AccountSetting) (a : Account) : Account :=
  match old.enabled, new.enabled with
  | false, true => { Account.initial with state := .unread }
  | true, false =>
    { a with state := .disabled, baseline := none, energies := List.replicate 8 0, period := PeriodData.cleared }
  | true, true => if old.meter = new.meter then a else a.rebound
  | false, false => a

/-- R158: whether the change is reported to the Meter Sweep Engine. -/
def reportsChange (old new : AccountSetting) : Bool :=
  old.enabled && (!new.enabled || old.meter != new.meter)

/-- R167: every enabled account that names a rebound meter index. -/
def billRebinding (meter : Nat) (s : State) : State :=
  let rebind := fun (a : Nat) (acc : Account) =>
    if (s.accountSetting a).enabled && (s.accountSetting a).meter == meter then acc.rebound else acc
  { s with billing := { s.billing with accounts := mapFrom rebind 0 s.billing.accounts } }

/-! ## The close -/

/-- R168: how many accounts are enabled. -/
def enabledCount (s : State) : Nat := s.tables.t12.countP fun e => e.enabled

/-- R169: kWh at a price per MWh, in cents rounded half up. -/
def charge (kwh price : Nat) : Nat := (kwh * price + 500) / 1000

/-- R169: the eight charges at the prices of T11. -/
def chargesOf (prices energies : List Nat) : List Nat :=
  (List.range 8).map fun i => charge (energies.getD i 0) (prices.getD i 0)

/-- R169: the billing record of an account. -/
def billingRecord (s : State) (closeNumber a : Nat) : BillingRecord :=
  let acc := s.account a
  let charges := chargesOf s.tables.t11 acc.energies
  { account := a, closeNumber := closeNumber, periodStart := s.billing.periodStart, periodEnd := s.stamp
    state := acc.state, energies := acc.energies, charges := charges, total := charges.sum
    period := acc.period }

/-- R169: the enabled accounts, in account number order. -/
def enabledAccounts (s : State) : List Nat :=
  (List.range s.tables.t12.length).filter fun a => (s.accountSetting a).enabled

/-- R169, R171: one record joins the back of the queue, with the notice of a high queue. -/
def appendBilling (s : State) (b : BillingRecord) : State :=
  let queue := s.billing.queue ++ [b]
  let s1 : State := { s with billing := { s.billing with queue := queue } }
  if 144 ≤ queue.length then s1.notice .billingQueueHigh (queue.length : Int) else s1

/-- R169: an enabled account after a close. -/
def Account.closed (a : Account) : Account :=
  { a with energies := List.replicate 8 0, period := PeriodData.cleared }

/-- R169: a taken close. -/
def takeClose (s : State) : State :=
  let number := (s.billing.closeCounter + 1) % 65536
  let s1 := ((enabledAccounts s).map (billingRecord s number)).foldl appendBilling s
  let close := fun (a : Nat) (acc : Account) => if (s.accountSetting a).enabled then acc.closed else acc
  { s1 with billing := { s1.billing with
      accounts := mapFrom close 0 s1.billing.accounts
      closeCounter := number
      periodStart := s.stamp } }

/-- R168, R171: places in the billing queue. -/
def billingCapacity : Nat := 192

/-- R171: the oldest billing record leaves the queue. -/
def dropBilling (s : State) : State :=
  { s with billing := { s.billing with queue := s.billing.queue.drop 1 } }

end Sys2Proof.Machine
end

