-- ==== Sys2Proof/Machine/SweepEngine.lean ====
section
/-! DEFINITION. The Meter Sweep Engine (chapter 9). -/

namespace Sys2Proof.Machine

/-- Changes the engine's own state. -/
def State.onSweep (s : State) (f : Sweep → Sweep) : State := { s with sweep := f s.sweep }

/-- R146: the last account a sweep covers: one account in SINGLE. -/
def SweepCopy.lastCovered (c : SweepCopy) : Nat := match c.mode with | .single => c.first | _ => c.last

/-- R143: the visit cursor is past the end. -/
def Sweep.pastEnd (w : Sweep) : Bool := w.copy.lastCovered < w.cursor

/-! ## The start and the end of a sweep -/

/-- R146, steps 2 to 7: a sweep starts on a given copy. -/
def beginSweep (copy : SweepCopy) (s : State) : State :=
  s.onSweep fun w =>
    { w with
      state := .sweeping
      number := (w.number + 1) % 65536
      copy := copy
      cursor := copy.first
      startStamp := some ⟨s.clock.day, s.clock.seconds⟩
      intervalDue := if copy.mode = .repeating then some (s.now + copy.interval * second) else none
      overrun := false
      tallyRead := 0
      tallyFault := 0
      tallyMissed := 0 }

/-- R153: no account of the sweep's range is enabled. -/
def rangeEmpty (s : State) : Bool :=
  (List.range 96).all fun a =>
    !(decide (s.sweep.copy.first ≤ a) && decide (a ≤ s.sweep.copy.lastCovered) && (s.accountSetting a).enabled)

/-- R153: the end of a sweep whose overrun mark is clear. -/
def settleSweep (s : State) : State :=
  (s.notice .sweepDone (s.sweep.number : Int)).onSweep fun w =>
    { w with state := if w.copy.mode = .repeating then .waiting else .idle }

/-- R146, R153: a sweep starts, and ends at once when its range holds no enabled account. -/
def startSweepOn (copy : SweepCopy) (s : State) : State :=
  let s1 := beginSweep copy s
  if rangeEmpty s1 then settleSweep (s1.onSweep fun w => { w with cursor := w.copy.lastCovered + 1 }) else s1

/-- R153: the end of a sweep; with the overrun mark set the next one starts at once. -/
def finishSweep (s : State) : State :=
  if s.sweep.copy.mode = .repeating ∧ s.sweep.overrun = true then
    let s1 := beginSweep s.sweep.copy (s.notice .sweepDone (s.sweep.number : Int))
    let s2 := s1.notice .sweepOverrun (s1.sweep.number : Int)
    if rangeEmpty s2 then settleSweep (s2.onSweep fun w => { w with cursor := w.copy.lastCovered + 1 }) else s2
  else settleSweep s

/-- R153, R154: with no entry outstanding a sweep past its end ends, and a stopping engine becomes idle. -/
def checkSweepEnd (s : State) : State :=
  if s.sweep.entries = [] then
    if s.sweep.state = .sweeping ∧ s.sweep.pastEnd = true then finishSweep s
    else if s.sweep.state = .stopping then s.onSweep fun w => { w with state := .idle }
    else s
  else s

/-! ## Entries and polls -/

/-- The outstanding entry of an account. -/
def Sweep.entryOf (w : Sweep) (account : Nat) : Option PollEntry :=
  w.entries.find? (fun e => e.account == account)

/-- An entry is freed. -/
def freeEntry (account : Nat) (s : State) : State :=
  s.onSweep fun w => { w with entries := w.entries.filter fun e => e.account != account }

/-- R148: the poll of an entry is placed, with its item on the placement list. -/
def placePoll (account : Nat) (station : Byte) (s : State) : State :=
  (s.place { quota := .poll, destination := station, kind := kindPoll, payload := [], echo := none
             endsPart := false }).onSweep
    fun w => { w with placement := w.placement ++ [some account] }

/-- R152: a MISSED outcome. -/
def missedOutcome (account : Nat) (s : State) : State :=
  billMissed account (s.onSweep fun w => { w with tallyMissed := w.tallyMissed + 1 })

/-- R147, R151: the admitted station of an account's meter. -/
def meterStation (s : State) (account : Nat) : Option Byte :=
  ((bindingAt s.bindings .heatMeter (s.accountSetting account).meter).filter (fun b => !b.ignore)).map
    fun b => b.station

/-- R147: an entry can be issued. -/
def canIssue (s : State) : Bool :=
  decide (s.sweep.entries.length < 4) && s.freeSlot .poll && s.sweep.retries.isEmpty

/-- R147: the cursor advances. -/
def advanceCursor (s : State) : State := s.onSweep fun w => { w with cursor := w.cursor + 1 }

/-- R147: one account is visited; a visit with no room waits. -/
def visitAccount (s : State) : State :=
  if s.sweep.state = .sweeping ∧ s.sweep.pastEnd = false then
    let a := s.sweep.cursor
    if (s.accountSetting a).enabled then
      match meterStation s a with
      | none => checkSweepEnd (missedOutcome a (advanceCursor s))
      | some station =>
        if canIssue s then
          placePoll a station ((advanceCursor s).onSweep fun w =>
            { w with entries := w.entries ++ [⟨a, station, .queued, 1⟩] })
        else s
    else checkSweepEnd (advanceCursor s)
  else s

/-- R151: a waiting retry's poll is placed as soon as a poll slot is free. -/
def placeRetry (s : State) : State :=
  match s.sweep.retries with
  | [] => s
  | a :: rest =>
    match s.sweep.entryOf a with
    | none => s.onSweep fun w => { w with retries := rest }
    | some e =>
      if s.freeSlot .poll then placePoll a e.station (s.onSweep fun w => { w with retries := rest }) else s

/-- R148: the oldest placement item's poll has left with a sequence. -/
def pollLeft (seq : Byte) (s : State) : State :=
  match s.sweep.placement with
  | [] => s
  | item :: rest =>
    let s1 := s.onSweep fun w => { w with placement := rest }
    match item with
    | none => s1
    | some a => s1.onSweep fun w =>
        { w with entries := w.entries.map fun e => if e.account = a then { e with phase := .away seq s.now } else e }

/-! ## Replies and timeouts -/

/-- R149: the AWAY entry that a reply answers. -/
def matchingEntry (s : State) (station seq : Byte) : Option PollEntry :=
  s.sweep.entries.find? fun e =>
    e.station == station && match e.phase with | .away q _ => q == seq | .queued => false

/-- R149: the register of a READ reply; none means METER-FAULT. -/
def replyRegister (entries : List SampleEntry) : Option Nat :=
  match lastOnChannel entries 2, lastOnChannel entries 1 with
  | some status, some v => if status = 0 ∧ 0 ≤ v ∧ v ≤ 99999999 then some v.toNat else none
  | _, _ => none

/-- R149, R150: a SAMPLE addressed to the part from an admitted meter. -/
def meterReply (station seq : Byte) (entries : List SampleEntry) (s : State) : State :=
  match matchingEntry s station seq with
  | none => s.count .lateReply
  | some e =>
    let s1 := freeEntry e.account s
    checkSweepEnd
      (match replyRegister entries with
      | some v =>
        takeReading ⟨e.account, v, ⟨s.clock.day, s.clock.seconds⟩, s.clock.dayType, s.now⟩
          (s1.onSweep fun w => { w with tallyRead := w.tallyRead + 1 })
      | none => billFault e.account (s1.onSweep fun w => { w with tallyFault := w.tallyFault + 1 }))

/-- R148: 250 ms. -/
def replyTime : Nat := 250

/-- R151: the reply timer of an account's entry expires. -/
def replyTimeout (account : Nat) (s : State) : State :=
  match s.sweep.entryOf account with
  | none => s
  | some e =>
    match e.phase with
    | .queued => s
    | .away _ departed =>
      let s1 := s.advanceTo (departed + replyTime)
      if s1.sweep.state = .sweeping then
        if e.attempt < 1 + s1.tables.t13.retryLimit ∧ meterStation s1 account = some e.station then
          s1.onSweep fun w =>
            { w with
              entries := w.entries.map fun x =>
                if x.account = account then { x with phase := .queued, attempt := x.attempt + 1 } else x
              retries := w.retries ++ [account] }
        else checkSweepEnd (missedOutcome account (freeEntry account s1))
      else checkSweepEnd (freeEntry account s1)

/-- R153: the interval timer expires. -/
def intervalEffect (s : State) : State :=
  match s.sweep.intervalDue with
  | none => s
  | some due =>
    let s1 := s.advanceTo due
    match s.sweep.state with
    | .waiting => startSweepOn s1.sweep.copy s1
    | .sweeping => s1.onSweep fun w => { w with overrun := true, intervalDue := none }
    | _ => s

/-! ## Stopping and cancelling -/

/-- R154: STOP-SWEEP on an engine that is not IDLE. The number that stands for a cursor past the end, the last account
covered plus one, is the model's choice (log entry 23). -/
def stopSweepEffect (s : State) : State :=
  match s.sweep.state with
  | .stopping => s
  | .sweeping =>
    if s.sweep.entries = [] then s.onSweep fun w => { w with state := .idle, intervalDue := none }
    else checkSweepEnd (s.onSweep fun w =>
      { w with
        state := .stopping
        intervalDue := none
        cursor := w.copy.lastCovered + 1
        entries := w.entries.filter fun e => !w.retries.contains e.account
        retries := [] })
  | _ => s.onSweep fun w => { w with state := .idle, intervalDue := none }

/-- R155: an outstanding entry is cancelled; a placed poll becomes an orphan. -/
def cancelEntry (account : Nat) (s : State) : State :=
  (freeEntry account s).onSweep fun w =>
    { w with
      placement := w.placement.map fun item => if item = some account then none else item
      retries := w.retries.filter fun a => a != account }

/-- R155: the accounts whose outstanding entries a rebound meter index cancels. -/
def accountsOfMeter (s : State) (meter : Nat) : List Nat :=
  (s.sweep.entries.map fun e => e.account).filter fun a => (s.accountSetting a).meter == meter

/-- R155: a meter rebinding report. -/
def sweepRebinding (meter : Nat) (s : State) : State :=
  (accountsOfMeter s meter).foldl (fun s a => cancelEntry a s) s

/-- R156: RESTART SWEEP. -/
def restartSweepEffect (s : State) : State :=
  s.onSweep fun w =>
    { w with state := .idle, intervalDue := none, overrun := false, entries := []
             placement := w.placement.map fun _ => none, retries := [] }

/-- REPLY_TIMER_EXPIRY (R151). -/
def execReplyTimerExpiry (account : Nat) (s : State) : Host.Outcome State Fault Refusal :=
  act s (replyTimeout account)

/-- INTERVAL_TIMER_EXPIRY (R153). -/
def execIntervalTimerExpiry (s : State) : Host.Outcome State Fault Refusal := act s intervalEffect

/-- ACCOUNT_VISIT (R147). -/
def execAccountVisit (s : State) : Host.Outcome State Fault Refusal := act s visitAccount

/-- RETRY_PLACEMENT (R151). -/
def execRetryPlacement (s : State) : Host.Outcome State Fault Refusal := act s placeRetry

end Sys2Proof.Machine
end

