-- ==== Sys2Proof/Machine/Stations.lean ====
section
/-! DEFINITION. The Station Table (chapter 2): the checks of a write to T0 and what a taken write tells the
other blocks. -/

namespace Sys2Proof.Machine

/-- R22: at most 4 management entries. -/
def mgmtCountOk (bindings : List Binding) : Bool :=
  bindings.countP (fun b => b.role.mgmtClass.isSome) ≤ 4

/-- R23: two bound entries may stand together. -/
def distinctBindings (a b : Binding) : Bool :=
  a.station != b.station &&
    (a.role.mgmtClass.isSome || !(a.role == b.role && a.index == b.index))

/-- R23: no two bound entries share a station number, and no two share a role and role index. -/
def uniqueBindings : List Binding → Bool
  | [] => true
  | b :: bs => bs.all (distinctBindings b) && uniqueBindings bs

/-- R24: an admitted MGMT-ENGINEER entry. -/
def admittedEngineer (b : Binding) : Bool := b.role == .mgmtEngineer && !b.ignore

/-- R24: the criterion of the management lockout guard on the table as it would stand. -/
def lockoutOk (bindings : List Binding) : Bool :=
  bindings.all (fun b => b.role.mgmtClass.isNone) || bindings.any admittedEngineer

/-- R24: an admitted MGMT-ENGINEER entry keeps its role and admission and changes its station. -/
def engineerMoved : Option Binding → Option Binding → Bool
  | some a, some b => admittedEngineer a && admittedEngineer b && a.station != b.station
  | _, _ => false

/-- R24, third bullet: the last admitted engineer entry changes its station while other management entries remain. The
criterion of R24 lets such a table stand, and the model refuses it as the bullet says (log entry 32). -/
def lastEngineerMoved (old new : List (Option Binding)) : Bool :=
  (old.filterMap id).countP admittedEngineer == 1 && (new.filterMap id).countP admittedEngineer == 1 &&
    (new.filterMap id).any (fun b => b.role.mgmtClass.isSome && !admittedEngineer b) &&
    (old.zip new).any fun p => engineerMoved p.1 p.2

/-- R24: the management lockout guard over a write: its criterion, and its third bullet. -/
def guardOk (old new : List (Option Binding)) : Bool :=
  lockoutOk (new.filterMap id) && !lastEngineerMoved old new

/-- R25: whether an entry has a governed role. -/
def governedEntry : Option Binding → Bool
  | some b => b.role.governed
  | none => false

/-- R25: the fields of an entry that a rebinding changes. -/
def bindingKey (e : Option Binding) : Option (Byte × Role × Nat) := e.map fun b => (b.station, b.role, b.index)

/-- R25: writing `new` over `old` rebinds a governed station. -/
def rebindsGoverned (old new : Option Binding) : Bool :=
  (governedEntry old || governedEntry new) && bindingKey old != bindingKey new

/-- R25: any entry of the table as it would stand rebinds a governed station. -/
def anyGovernedRebound (old new : List (Option Binding)) : Bool :=
  (old.zip new).any fun p => rebindsGoverned p.1 p.2

/-- R26: a role and index is rebound when the station bound to it changes. -/
def isRebound (old new : List (Option Binding)) (role : Role) (index : Nat) : Bool :=
  stationAt old role index != stationAt new role index

/-- R26, R30: the role indices that have status records. -/
def statusOwners : List (Role × Nat) := ((List.range 31).filter isStatusRecord).map recordOwner

/-- R26: the rebound heat meter indices, in ascending order. -/
def reboundMeters (old new : List (Option Binding)) : List Nat :=
  (List.range 96).filter (isRebound old new .heatMeter)

/-- R26, R155, R167: what a taken write of T0 tells the other blocks (log entry 25). -/
def bindingReports (old new : List (Option Binding)) (s : State) : State :=
  let s1 := statusOwners.foldl
    (fun s o => if isRebound old new o.1 o.2 then discardCandidates o.1 o.2 s else s) s
  let s2 := (reboundMeters old new).foldl (fun s m => billRebinding m (sweepRebinding m s)) s1
  checkSweepEnd s2

end Sys2Proof.Machine
end

