-- ==== Sys2Proof/Machine/TableWrites.lean ====
section
/-! DEFINITION. The owners' side of WRITE and EXCHANGE (R179, R180): each table judges the entries of a request as
a whole and, when they pass, writes them in one step. -/

namespace Sys2Proof.Machine

/-- The status codes of R175. -/
inductive Status where
  | done | refusedClass | badRequest | outOfRange | invalidEntry | duplicate | notNow | unmet
  | queueFull | empty | mismatch
  deriving DecidableEq, Repr

/-- R175: the code of a status. -/
def Status.code : Status → Nat
  | .done => 0 | .refusedClass => 1 | .badRequest => 2 | .outOfRange => 3 | .invalidEntry => 4
  | .duplicate => 5 | .notNow => 6 | .unmet => 7 | .queueFull => 8 | .empty => 9 | .mismatch => 10

/-- What serving a request gives: the status, the data of the reply, and the part after it. -/
structure Answer where
  status : Status
  data : List Byte
  state : State
  deriving DecidableEq, Repr

/-- R175: a refused request changes nothing, and carries no data but where a rule gives it. -/
def refuse (status : Status) (s : State) : Answer := ⟨status, [], s⟩

/-- A request carried out with no data in its reply. -/
def doneWith (s : State) : Answer := ⟨.done, [], s⟩

/-- Writes tables. -/
def State.onTables (s : State) (f : Tables → Tables) : State := { s with tables := f s.tables }

/-- R22 to R26: a write to T0. -/
def ownT0 (index : Nat) (entries : List (List Byte)) (s : State) : Answer :=
  match readEntries widthsT0 (bindingOfFields s.pins.station) index entries with
  | none => refuse .invalidEntry s
  | some new =>
    let old := s.tables.t0
    let after := replaceFrom old index new
    let bindings := after.filterMap id
    if !mgmtCountOk bindings then refuse .invalidEntry s
    else if !uniqueBindings bindings then refuse .duplicate s
    else if !guardOk old after then refuse .notNow s
    else if s.alloc.state != .stopped && anyGovernedRebound old after then refuse .notNow s
    else doneWith (bindingReports old after (s.onTables fun t => { t with t0 := after }))

/-- A write to a table whose entries are judged one by one, and which acts on no other block. -/
def ownPlain {α : Type} (widths : List Nat) (entryOf : Nat → List Nat → Option α)
    (put : List α → State → State) (index : Nat) (entries : List (List Byte)) (s : State) : Answer :=
  match readEntries widths entryOf index entries with
  | none => refuse .invalidEntry s
  | some new => doneWith (put new s)

/-- R31. -/
def ownT1 (index : Nat) (entries : List (List Byte)) (s : State) : Answer :=
  ownPlain widthsT1 inputSettingOfFields
    (fun new s => s.onTables fun t => { t with t1 := replaceFrom t.t1 index new }) index entries s

/-- R66. -/
def ownT2 (index : Nat) (entries : List (List Byte)) (s : State) : Answer :=
  ownPlain widthsT2 sourceSettingOfFields
    (fun new s => s.onTables fun t => { t with t2 := replaceFrom t.t2 index new }) index entries s

/-- R46: the bands are not re-evaluated by the write. -/
def ownT3 (index : Nat) (entries : List (List Byte)) (s : State) : Answer :=
  ownPlain widthsT3 holderSettingOfFields
    (fun new s => s.onTables fun t => { t with t3 := replaceFrom t.t3 index new }) index entries s

/-- R67, R99, R100. -/
def ownT4 (index : Nat) (entries : List (List Byte)) (s : State) : Answer :=
  ownPlain widthsT4 boilerSettingOfFields
    (fun new s => s.onTables fun t => { t with t4 := replaceFrom t.t4 index new }) index entries s

/-- R78, R99, R100. -/
def ownT5 (index : Nat) (entries : List (List Byte)) (s : State) : Answer :=
  ownPlain widthsT5 turbineSettingOfFields
    (fun new s => s.onTables fun t => { t with t5 := replaceFrom t.t5 index new }) index entries s

/-- R79, R99, R100. -/
def ownT6 (index : Nat) (entries : List (List Byte)) (s : State) : Answer :=
  ownPlain widthsT6 exchangerSettingOfFields
    (fun new s => s.onTables fun t => { t with t6 := replaceFrom t.t6 index new }) index entries s

/-- R80, R99, R100. -/
def ownT7 (index : Nat) (entries : List (List Byte)) (s : State) : Answer :=
  ownPlain widthsT7 flareSettingOfFields
    (fun new s => s.onTables fun t => { t with t7 := new.getLastD t.t7 }) index entries s

/-- R59: a taken write sets the settings-loaded mark. -/
def ownT8 (index : Nat) (entries : List (List Byte)) (s : State) : Answer :=
  ownPlain widthsT8 allocSettingOfFields
    (fun new s =>
      let s1 := s.onTables fun t => { t with t8 := new.getLastD t.t8 }
      { s1 with alloc := { s1.alloc with settingsLoaded := true } }) index entries s

/-- R128. -/
def ownT9 (index : Nat) (entries : List (List Byte)) (s : State) : Answer :=
  ownPlain widthsT9 exportEntryOfFields
    (fun new s => s.onTables fun t => { t with t9 := replaceFrom t.t9 index new }) index entries s

/-- R160. -/
def ownT10 (index : Nat) (entries : List (List Byte)) (s : State) : Answer :=
  ownPlain widthsT10 tariffBandOfFields
    (fun new s => s.onTables fun t => { t with t10 := replaceFrom t.t10 index new }) index entries s

/-- R160. -/
def ownT11 (index : Nat) (entries : List (List Byte)) (s : State) : Answer :=
  ownPlain widthsT11 priceOfFields
    (fun new s => s.onTables fun t => { t with t11 := replaceFrom t.t11 index new }) index entries s

/-- R157: the meter indices of the enabled accounts. -/
def enabledMeters (t12 : List AccountSetting) : List Nat := (t12.filter fun e => e.enabled).map fun e => e.meter

/-- R157: two enabled accounts would name the same meter index. -/
def duplicateMeters : List Nat → Bool
  | [] => false
  | m :: ms => ms.contains m || duplicateMeters ms

/-- R155, R158: each changed account is acted on and reported to the Meter Sweep Engine. -/
def changeAccounts (old new : List AccountSetting) (s : State) : State :=
  let olds := fun a => old.getD a AccountSetting.zero
  let news := fun a => new.getD a AccountSetting.zero
  let change := fun (a : Nat) (acc : Account) => changedAccount (olds a) (news a) acc
  let s1 : State := { s with billing := { s.billing with accounts := mapFrom change 0 s.billing.accounts } }
  checkSweepEnd
    (((List.range 96).filter fun a => reportsChange (olds a) (news a)).foldl (fun s a => cancelEntry a s) s1)

/-- R157, R158. -/
def ownT12 (index : Nat) (entries : List (List Byte)) (s : State) : Answer :=
  match readEntries widthsT12 accountSettingOfFields index entries with
  | none => refuse .invalidEntry s
  | some new =>
    let old := s.tables.t12
    let after := replaceFrom old index new
    if duplicateMeters (enabledMeters after) then refuse .duplicate s
    else doneWith (changeAccounts old after (s.onTables fun t => { t with t12 := after }))

/-- R144. -/
def ownT13 (index : Nat) (entries : List (List Byte)) (s : State) : Answer :=
  ownPlain widthsT13 sweepSettingOfFields
    (fun new s => s.onTables fun t => { t with t13 := new.getLastD t.t13 }) index entries s

/-- R183: every kind that the new settings do not take leaves the pending set. -/
def keepTaken (s : State) : State :=
  { s with mgmt := { s.mgmt with notices := s.mgmt.notices.filter fun p => s.tables.t14.takes p.1 } }

/-- R183. -/
def ownT14 (index : Nat) (entries : List (List Byte)) (s : State) : Answer :=
  ownPlain widthsT14 (noticeSettingOfFields s.pins.station)
    (fun new s => keepTaken (s.onTables fun t => { t with t14 := new.getLastD t.t14 })) index entries s

/-- R180: the owner of a table by its number, for EXCHANGE, which names any of them. -/
def ownTable (table : Nat) : Nat → List (List Byte) → State → Answer :=
  match table with
  | 0 => ownT0 | 1 => ownT1 | 2 => ownT2 | 3 => ownT3 | 4 => ownT4 | 5 => ownT5 | 6 => ownT6 | 7 => ownT7
  | 8 => ownT8 | 9 => ownT9 | 10 => ownT10 | 11 => ownT11 | 12 => ownT12 | 13 => ownT13 | 14 => ownT14
  | _ => fun _ _ s => refuse .outOfRange s

end Sys2Proof.Machine
end

