-- ==== Sys2Proof/Machine/Records.lean ====
section
/-! DEFINITION. The tables and readable records as a READ returns them (11.2), encoded by R176. The forms that
rest on an inference are named in log entry 9. -/

namespace Sys2Proof.Machine

/-- R116, R175: the entry record of a cause, absent when the cause is not in the set or the clock was INVALID. -/
def causeStamp (s : State) (c : Cause) : Option Stamp :=
  (s.latch.causes.find? fun e => e.cause == c).bind fun e => e.entry

/-- R45, R58, R116, R143: the status record, its items in the order of 11.2. -/
def statusRecord (s : State) : List Byte :=
  [s.pins.station, Config.ringStateCode s.port.ringState] ++
  [Config.allocStateCode s.alloc.state] ++
  field 1 (match s.alloc.period with | some p => p.length | none => 0) ++
  field 1 (match s.alloc.period with | some p => s.secondsSince p.start | none => 0) ++
  flagField s.alloc.computing.isSome ++ flagField s.alloc.settingsLoaded ++
  [Config.clockStateCode s.clock.state] ++ field 4 s.clock.seconds ++ field 2 s.clock.day ++
    field 1 s.clock.dayType.code ++
  field 1 s.latch.mode.code ++ flagField s.latch.island ++ field 1 (setValue s.latch.causes) ++
    presentField 1 (fun c : Cause => field 1 c.code) s.latch.firstCause ++
    presentField 6 stampField (causeStamp s .lowLow0) ++ presentField 6 stampField (causeStamp s .lowLow1) ++
    presentField 6 stampField (causeStamp s .safety) ++ presentField 6 stampField (causeStamp s .manual) ++
  [Config.sweepStateCode s.sweep.state] ++ field 2 s.sweep.number ++
    presentField 6 stampField s.sweep.startStamp ++ field 1 s.sweep.entries.length ++
    field 1 s.sweep.cursor ++ field 1 s.sweep.tallyRead ++ field 1 s.sweep.tallyFault ++
    field 1 s.sweep.tallyMissed

/-- R95: unsigned kW fields of 4 bytes each, in a row. -/
def kwFields (vs : List Nat) : List Byte := vs.flatMap fun v : Nat => signedField 4 (v : Int)

/-- R95: the ten groups of the allocation summary, the last read at the moment of the read. -/
def summaryGroups (s : State) : List (List Byte) :=
  let m := s.alloc.summary
  [ kwFields [m.period] ++ field 1 m.mode.code ++ flagField m.island ++
      [match m.state with | some st => Config.allocStateCode st | none => 0]
  , flagField m.inputSubstituted ++ flagField m.short ++ flagField m.heatShort ++ flagField m.exportShort
  , kwFields m.available ++ m.corrections.flatMap (signedField 4) ++ kwFields [m.fuel]
  , (List.range 6).flatMap fun b => kwFields [m.byProduct.getD b 0, m.topUp.getD b 0]
  , kwFields [m.excess, m.flareGrant, m.heldExcess]
  , kwFields [m.pool, m.demand, m.exportTarget, m.tolerance] ++ signedField 4 m.siteLoad ++
      kwFields [m.turbineCap, m.turbineNeed, m.turbineHigh]
  , kwFields [m.heat, m.turbine, m.dump, m.topHeat, m.shortfall]
  , kwFields m.exchangerShares ++ kwFields m.turbineShares
  , kwFields [m.rho]
  , kwFields [s.alloc.rho] ++ field 8 s.alloc.recCounter ++ field 8 s.alloc.topCounter ]

/-- R30, R38: an entry of the input registry record: value, quality, arrival age, candidate, flag. That the age is
rounded down to whole seconds is the model's choice (log entry 9). -/
def registryEntry (s : State) (r : Nat) : List Byte :=
  let x := s.record r
  let seen := s.readRecord r
  signedField 4 seen.1 ++ [Config.qualityCode seen.2] ++
    presentField 4 (fun t => field 4 (s.secondsSince t)) x.arrival ++
    presentField 1 (fun c : Int => field 1 c.toNat) x.candidate ++ flagField x.agreed

/-- R114: an entry of the grant table. That the request age has a present byte of its own, behind that of the last
request, is the model's choice (log entry 9). -/
def grantEntry (s : State) (k : Nat) : List Byte :=
  let r := s.grant k
  let g := s.tables.governing k
  field 1 g.mode.code ++ field 4 r.grant ++ field 4 r.limit ++
    presentField 4 (field 4) r.pending ++ field 4 g.ramp ++ field 4 g.trip ++
    presentField 4 (fun q : LastRequest => signedField 4 q.setpoint) r.lastRequest ++
    presentField 4 (fun q : LastRequest => field 4 (s.secondsSince q.time)) r.lastRequest ++
    presentField 4 (signedField 4) r.lastPassed

/-- R50: the time remaining on the timer that runs, in seconds (log entry 11). -/
def remainingSeconds (s : State) : Nat :=
  let w := s.holder.window
  let left := match w.limitTimer, w.tailDue with
    | some t, _ => t.due - s.now
    | none, some due => due - s.now
    | none, none => 0
  left / second + (if left % second ≠ 0 ∧ Config.remainingRoundsUp left = true then 1 else 0)

/-- R45: a last evaluated level; the spec fixes levels at 0 to 1000 and states none for others (log entry 10). -/
def levelField (v : Int) : List Byte :=
  if 0 ≤ v then field 2 v.toNat else be 2 (Config.unfitValue 2 v)

/-- R45: a holder's part of the holder and window state record. -/
def holderFields (s : State) (h : Nat) : List Byte :=
  let x := s.holderState h
  field 1 x.band.code ++ presentField 2 levelField x.level ++ field 2 (effectiveTarget s h)

/-- R45, R50: the holder and window state record. That the present byte of the current start stands behind its
internal time, and the works-clock part follows with a present byte of its own, is the model's choice (log entry 9). -/
def holderRecord (s : State) : List Byte :=
  let w := s.holder.window
  holderFields s 0 ++ holderFields s 1 ++
  [Config.windowStateCode w.state] ++ flagField w.stuck ++
  presentField 4 (fun b : BlowStart => field 4 (Config.internalTimeCode b.time)) w.start ++
  presentField 6 stampField (w.start.bind fun b => b.clock) ++
  presentField 4 (fun t => field 4 (Config.internalTimeCode t)) w.previousStart ++
  presentField 4 (field 4) w.lastInterval ++ field 2 (remainingSeconds s)

/-- R55: an entry of the blow log. -/
def blowLogEntry (e : BlowEntry) : List Byte :=
  presentField 6 stampField e.start ++ field 2 e.duration ++ presentField 4 (field 4) e.interval ++
    [Config.blowEndCode e.ending]

/-- R130: the flags of a block, one byte each. -/
def blockFlagFields (f : BlockFlags) : List Byte :=
  flagField f.partialBlock ++ flagField f.trip ++ flagField f.island ++ flagField f.clockStep ++
    flagField f.clockFree ++ flagField f.inputDegraded

/-- R130: the current block record. -/
def blockRecord (s : State) : List Byte :=
  presentField 32 (fun b : Block =>
    field 1 b.index ++ field 2 b.day ++ writeT9Entry b.entry ++ signedField 8 b.delivered ++
      field 2 b.elapsed ++ blockFlagFields b.flags ++ field 4 b.handedTarget ++ field 2 b.handedTolerance)
    s.tracker.block

/-- R159: a reading of the period data. -/
def readingField : Option ReadingStamp → List Byte :=
  presentField 10 fun r => field 4 r.register ++ stampField r.stamp

/-- R159: an entry of the account state record. -/
def accountEntry (s : State) (a : Nat) : List Byte :=
  let x := s.account a
  [Config.accountStateCode x.state] ++ (s.accountSetting a).write ++
    presentField 24 (fun b : Baseline =>
      field 4 b.register ++ field 4 (s.secondsSince b.time) ++ field 8 b.recSnap ++ field 8 b.topSnap) x.baseline ++
    field 1 x.implausible ++ field 1 x.misses ++ x.energies.flatMap (field 4) ++
    readingField x.period.first ++ readingField x.period.last ++
    field 2 x.period.missed ++ field 2 x.period.fault ++ field 2 x.period.rejected ++
    flagField x.period.gap ++ flagField x.period.baseline

/-- 11.2: the entries of a table or readable record as they stand; none for a number that names neither. -/
def tableEntries (s : State) (table : Nat) : Option (List (List Byte)) :=
  match table with
  | 0 => some (s.tables.t0.map writeT0Entry)
  | 1 => some (s.tables.t1.map InputSetting.write)
  | 2 => some (s.tables.t2.map (field 2))
  | 3 => some (s.tables.t3.map HolderSetting.write)
  | 4 => some (s.tables.t4.map BoilerSetting.write)
  | 5 => some (s.tables.t5.map TurbineSetting.write)
  | 6 => some (s.tables.t6.map ExchangerSetting.write)
  | 7 => some [s.tables.t7.write]
  | 8 => some [s.tables.t8.write]
  | 9 => some (s.tables.t9.map writeT9Entry)
  | 10 => some (s.tables.t10.map (field 1))
  | 11 => some (s.tables.t11.map (field 4))
  | 12 => some (s.tables.t12.map AccountSetting.write)
  | 13 => some [s.tables.t13.write]
  | 14 => some [s.tables.t14.write]
  | 16 => some [statusRecord s]
  | 17 => some (summaryGroups s)
  | 18 => some ((List.range 31).map (registryEntry s))
  | 19 => some ((List.range 13).map (grantEntry s))
  | 20 => some [holderRecord s]
  | 21 => some (s.holder.log.map blowLogEntry)
  | 22 => some [blockRecord s]
  | 23 => some ((List.range 96).map (accountEntry s))
  | _ => none

/-- R136: a settlement record as a reply carries it. -/
def settlementFields (r : Settlement) : List Byte :=
  field 2 r.number ++ field 1 r.index ++ field 2 r.day ++ field 4 r.targetKwh ++ field 2 r.toleranceKwh ++
    signedField 8 r.actualKwh ++ signedField 8 r.deviation ++ [Config.settleClassCode r.settleClass] ++
    blockFlagFields r.flags ++ field 1 r.lostBefore

/-- R171: part 0 of a billing record. -/
def billingPart0 (r : BillingRecord) : List Byte :=
  field 1 r.account ++ field 2 r.closeNumber ++ presentField 6 stampField r.periodStart ++
    presentField 6 stampField r.periodEnd ++ [Config.accountStateCode r.state] ++ r.energies.flatMap (field 4) ++
    readingField r.period.first ++ readingField r.period.last ++
    field 2 r.period.missed ++ field 2 r.period.fault ++ field 2 r.period.rejected ++
    flagField r.period.gap ++ flagField r.period.baseline

/-- R171: part 1 of a billing record. -/
def billingPart1 (r : BillingRecord) : List Byte :=
  field 1 r.account ++ field 2 r.closeNumber ++ r.charges.flatMap (field 8) ++ field 8 r.total

/-- R171: the data of a FETCH-BILLING reply: the part number, the part, the number of records. -/
def billingData (part : Nat) (r : BillingRecord) (count : Nat) : List Byte :=
  field 1 part ++ (if part = 0 then billingPart0 r else billingPart1 r) ++ field 1 count

end Sys2Proof.Machine
end

