-- ==== Sys2Proof/Machine/Management.lean ====
section
/-! DEFINITION. The Management Unit (chapter 11): the service of requests, the requests themselves, notices. -/

namespace Sys2Proof.Machine

/-! ## Which row serves a request, and for whom (R174, R175) -/

/-- R174: the row of a WRITE; one that names no table T0 to T14 is served by WRITE_T0 (log entry 4). -/
def writeCommand (operands : List Byte) : Instr :=
  match writeTable operands with
  | some 1 => .writeT1 | some 2 => .writeT2 | some 3 => .writeT3 | some 4 => .writeT4 | some 5 => .writeT5
  | some 6 => .writeT6 | some 7 => .writeT7 | some 8 => .writeT8 | some 9 => .writeT9 | some 10 => .writeT10
  | some 11 => .writeT11 | some 12 => .writeT12 | some 13 => .writeT13 | some 14 => .writeT14
  | _ => .writeT0

/-- R174: the row that serves a request (log entry 4). -/
def commandOf (payload : List Byte) : Instr :=
  let operands := payload.drop 1
  let first := operands.head?.map BitVec.toNat
  match payload.head?.map BitVec.toNat with
  | some 1 => .read
  | some 2 => .readOn
  | some 3 => writeCommand operands
  | some 4 => .exchange
  | some 5 => if first = some 1 then .readStatsClear else .readStats
  | some 6 => if first = some 2 then .restartSettlementQueue else if first = some 3 then .restartStatistics
      else .restartSweep
  | some 7 => .reset
  | some 8 => .startAllocation
  | some 9 => .stopAllocation
  | some 10 => .setMode
  | some 11 => .trip
  | some 12 => .resume
  | some 13 => .startSweep
  | some 14 => .stopSweep
  | some 15 => .closePeriod
  | some 16 => .fetchBilling
  | some 17 => .releaseBilling
  | some 18 => .fetchSettlement
  | some 19 => .releaseSettlement
  | _ => .badRequestCode

/-- R174, R175: the classes that may write a table; an absent or unknown table permits ENGINEER. -/
def writeClasses (operands : List Byte) : List MgmtClass :=
  if writeTable operands = some 10 ∨ writeTable operands = some 11 then [.billing] else [.engineer]

/-- R174, R175: the classes that may make a request. -/
def classesFor (payload : List Byte) : List MgmtClass :=
  let operands := payload.drop 1
  match payload.head?.map BitVec.toNat with
  | some 1 | some 2 => [.operator, .engineer, .billing]
  | some 3 | some 4 => writeClasses operands
  | some 5 => if operands.head? = some 0 then [.operator, .engineer, .billing] else [.engineer]
  | some 6 | some 7 | some 8 | some 9 | some 11 | some 12 => [.engineer]
  | some 10 | some 13 | some 14 => [.operator, .engineer]
  | some 15 | some 16 | some 17 | some 18 | some 19 => [.billing]
  | _ => []

/-- R28, R175: a requester of no class, or of a class not listed, is not permitted. -/
def permitted (payload : List Byte) (cls : Option MgmtClass) : Bool :=
  match cls with
  | none => false
  | some c => (classesFor payload).contains c

/-! ## Service (R173) -/

/-- R173, R182: the oldest request may be served: a reply slot is free, and no RESET has been served. -/
def canServe (s : State) : Bool := s.freeSlot .reply && s.mgmt.resetStage == .none

/-- R173: the REPLY of a request: its code, the status, the data. -/
def replyTo (q : Request) (endsPart : Bool) (a : Answer) : Inserted :=
  { quota := .reply, destination := q.station, kind := kindReply
    payload := q.payload.headD 0 :: BitVec.ofNat 8 a.status.code :: a.data
    echo := some q.seq, endsPart := endsPart }

/-- R175: the judgement of a request: its code, the requester's class, then what its owner answers. -/
def judgeRequest (q : Request) (owner : Request → List Byte → State → Answer) (s : State) : Answer :=
  if commandOf q.payload = .badRequestCode then refuse .badRequest s
  else if permitted q.payload (s.classOf q.station) then owner q (q.payload.drop 1) s
  else refuse .refusedClass s

/-- R173: serves the oldest request when it is one of the row `command`: takes it out, judges it, carries it out or
refuses it, and places its REPLY, in one step. -/
def serve (command : Instr) (owner : Request → List Byte → State → Answer) (s : State) : State :=
  match s.mgmt.queue with
  | [] => s
  | q :: rest =>
    if canServe s = true ∧ commandOf q.payload = command then
      let a := judgeRequest q owner { s with mgmt := { s.mgmt with queue := rest } }
      a.state.place (replyTo q (command == .reset && a.status == .done) a)
    else s

/-- R175: an owner that allows no operands. -/
def withoutOperands (owner : State → Answer) (operands : List Byte) (s : State) : Answer :=
  if operands = [] then owner s else refuse .badRequest s

/-- R173: a request refused with UNMET carries its condition codes. -/
def unmetAnswer (codes : List Nat) (s : State) : Answer := ⟨.unmet, codes.map (BitVec.ofNat 8), s⟩

/-! ## Reading (R177, R178) -/

/-- R177: the data bytes left for entries after request code, status, table, index, number and END. -/
def entryRoom : Nat := 114

/-- R177: as many whole entries as fit. -/
def takeFitting : Nat → List (List Byte) → List (List Byte)
  | _, [] => []
  | room, e :: es => if e.length ≤ room then e :: takeFitting (room - e.length) es else []

/-- R178: a station's slot is set: its own, a free one, or the one set least recently (log entry 22). -/
def setCursor (c : Cursor) (cursors : List Cursor) : List Cursor :=
  let others := cursors.filter fun x => x.station != c.station
  (if 4 ≤ others.length then others.drop 1 else others) ++ [c]

/-- R178: the requester's cursor; table 0, index 0 when it holds no slot. -/
def cursorOf (s : State) (station : Byte) : Cursor :=
  (s.mgmt.cursors.find? fun c => c.station == station).getD ⟨station, 0, 0⟩

/-- R177: entries of a table from an index on, and the requester's cursor set behind them. -/
def readEntriesFrom (station : Byte) (table index count : Nat) (entries : List (List Byte)) (s : State) : Answer :=
  let taken := takeFitting entryRoom ((entries.drop index).take count)
  let next := index + taken.length
  ⟨.done,
    field 1 table ++ field 1 index ++ field 1 taken.length ++ flagField (decide (entries.length ≤ next)) ++ taken.flatten,
    { s with mgmt := { s.mgmt with cursors := setCursor ⟨station, table, next⟩ s.mgmt.cursors } }⟩

/-- R177. -/
def ownRead (q : Request) (operands : List Byte) (s : State) : Answer :=
  match operands.map BitVec.toNat with
  | [table, index, count] =>
    if count < 1 ∨ 8 < count then refuse .badRequest s
    else match tableEntries s table with
      | none => refuse .outOfRange s
      | some entries =>
        if entries.length ≤ index then refuse .outOfRange s
        else readEntriesFrom q.station table index count entries s
  | _ => refuse .badRequest s

/-- R178. -/
def ownReadOn (q : Request) (operands : List Byte) (s : State) : Answer :=
  match operands.map BitVec.toNat with
  | [count] =>
    if count < 1 ∨ 8 < count then refuse .badRequest s
    else
      let c := cursorOf s q.station
      match tableEntries s c.table with
      | none => refuse .outOfRange s
      | some entries => readEntriesFrom q.station c.table c.index count entries s
  | _ => refuse .badRequest s

/-! ## Writing (R179, R180) -/

/-- R179: a WRITE to a table, its operand length and place judged before its owner. -/
def writeRequest (table : Nat) (own : Nat → List (List Byte) → State → Answer)
    (_ : Request) (operands : List Byte) (s : State) : Answer :=
  let size := (entrySize table).getD 1
  let count := (operands.length - writePrefix) / size
  if operands.length < writePrefix + size ∨ (operands.length - writePrefix) % size ≠ 0 then refuse .badRequest s
  else if tableLength table < writeIndex operands + count then refuse .outOfRange s
  else own (writeIndex operands) (chunks size count (operands.drop writePrefix)) s

/-- R175, R179: a WRITE that names T0, or no configuration table at all (log entry 4). -/
def writeRequest0 (q : Request) (operands : List Byte) (s : State) : Answer :=
  if writeTable operands = some 0 then writeRequest 0 ownT0 q operands s
  else if operands.length < writePrefix then refuse .badRequest s
  else refuse .outOfRange s

/-- R180: EXCHANGE compares the expected entry with the current one, and writes only on a match. -/
def ownExchange (_ : Request) (operands : List Byte) (s : State) : Answer :=
  match (writeTable operands).bind fun t => (entrySize t).map fun n => (t, n) with
  | none => if operands.length < writePrefix then refuse .badRequest s else refuse .outOfRange s
  | some (table, size) =>
    if operands.length ≠ writePrefix + 2 * size then refuse .badRequest s
    else
      let index := writeIndex operands
      let expected := (operands.drop writePrefix).take size
      let new := operands.drop (writePrefix + size)
      match (tableEntries s table).bind fun es => es[index]? with
      | none => refuse .outOfRange s
      | some current =>
        if expected = current then ownTable table index [new] s else ⟨.mismatch, current, s⟩

/-! ## Statistics, restart, reset (R181, R182) -/

/-- R181: the thirteen counters. -/
def statsData (s : State) : List Byte := s.port.stats.flatMap (field 4)

/-- R181, flag 0; a flag above 1 or a wrong length is answered BAD-REQUEST (R175). -/
def ownReadStats (_ : Request) (operands : List Byte) (s : State) : Answer :=
  if operands = [0] then ⟨.done, statsData s, s⟩ else refuse .badRequest s

/-- R18, R181, flag 1: read and cleared in one step. -/
def ownReadStatsClear (_ : Request) (operands : List Byte) (s : State) : Answer :=
  if operands = [1] then ⟨.done, statsData s, s.clearStats⟩ else refuse .badRequest s

/-- R156, R181: RESTART SWEEP; a scope other than 1 to 3 is answered BAD-REQUEST (R175, log entry 4). -/
def ownRestartSweep (_ : Request) (operands : List Byte) (s : State) : Answer :=
  if operands = [1] then doneWith (restartSweepEffect s) else refuse .badRequest s

/-- R142, R181. -/
def ownRestartSettlement (_ : Request) (operands : List Byte) (s : State) : Answer :=
  if operands = [2] then doneWith (restartSettlement s) else refuse .badRequest s

/-- R18, R181. -/
def ownRestartStatistics (_ : Request) (operands : List Byte) (s : State) : Answer :=
  if operands = [3] then doneWith s.clearStats else refuse .badRequest s

/-- R182: the DONE reply is placed and no further request is served. -/
def ownReset (_ : Request) (operands : List Byte) (s : State) : Answer :=
  withoutOperands (fun s => doneWith { s with mgmt := { s.mgmt with resetStage := .replyWaiting } }) operands s

/-! ## Requests of other blocks -/

/-- R60, R61. -/
def ownStart (_ : Request) (operands : List Byte) (s : State) : Answer :=
  withoutOperands (fun s =>
    if s.alloc.state ≠ .stopped then refuse .notNow s
    else if startUnmet s = [] then doneWith (startEffect s)
    else unmetAnswer (startUnmet s) s) operands s

/-- R61. -/
def ownStop (_ : Request) (operands : List Byte) (s : State) : Answer :=
  withoutOperands (fun s =>
    if s.alloc.state = .running then doneWith (stopEffect s) else refuse .notNow s) operands s

/-- R117. -/
def ownSetMode (_ : Request) (operands : List Byte) (s : State) : Answer :=
  match operands.map BitVec.toNat with
  | [0] => doneWith { s with latch := { s.latch with mode := .heatFirst } }
  | [1] => doneWith { s with latch := { s.latch with mode := .powerFirst } }
  | [_] => refuse .invalidEntry s
  | _ => refuse .badRequest s

/-- R119: TRIP raises MANUAL in every allocation state. -/
def ownTrip (_ : Request) (operands : List Byte) (s : State) : Answer :=
  withoutOperands (fun s => doneWith (raiseCause .manual s)) operands s

/-- R124, R125. -/
def ownResume (_ : Request) (operands : List Byte) (s : State) : Answer :=
  withoutOperands (fun s =>
    if resumeUnmet s = [] then doneWith (resumeEffect s) else unmetAnswer (resumeUnmet s) s) operands s

/-- R146: the sweep copy made from T13 at a START-SWEEP. -/
def SweepSetting.toCopy (t : SweepSetting) : SweepCopy := ⟨t.mode, t.first, t.last, t.interval⟩

/-- R145. -/
def ownStartSweep (_ : Request) (operands : List Byte) (s : State) : Answer :=
  withoutOperands (fun s =>
    if s.sweep.state ≠ .idle then refuse .notNow s
    else if s.clock.state = .valid then doneWith (startSweepOn s.tables.t13.toCopy s)
    else unmetAnswer [1] s) operands s

/-- R154. -/
def ownStopSweep (_ : Request) (operands : List Byte) (s : State) : Answer :=
  withoutOperands (fun s =>
    if s.sweep.state = .idle then refuse .notNow s else doneWith (stopSweepEffect s)) operands s

/-- R168, R169: the reply gives the new close number and the number of accounts. -/
def ownClosePeriod (_ : Request) (operands : List Byte) (s : State) : Answer :=
  withoutOperands (fun s =>
    if billingCapacity < s.billing.queue.length + enabledCount s then refuse .queueFull s
    else ⟨.done, field 2 ((s.billing.closeCounter + 1) % 65536) ++ field 1 (enabledCount s), takeClose s⟩) operands s

/-- R171. -/
def ownFetchBilling (_ : Request) (operands : List Byte) (s : State) : Answer :=
  match operands.map BitVec.toNat with
  | [part] =>
    if 1 < part then refuse .badRequest s
    else match s.billing.queue with
      | [] => refuse .empty s
      | r :: _ => ⟨.done, billingData part r s.billing.queue.length, s⟩
  | _ => refuse .badRequest s

/-- R171: the operands are a close number of two bytes and an account of one (R176). -/
def ownReleaseBilling (_ : Request) (operands : List Byte) (s : State) : Answer :=
  if operands.length ≠ 3 then refuse .badRequest s
  else match s.billing.queue with
    | [] => refuse .empty s
    | r :: _ =>
      if r.closeNumber = unbe (operands.take 2) ∧ r.account = unbe (operands.drop 2) then
        ⟨.done, field 1 (s.billing.queue.length - 1), dropBilling s⟩
      else ⟨.mismatch, billingData 0 r s.billing.queue.length, s⟩

/-- R140: the oldest settlement record and the number of records. -/
def settlementData (r : Settlement) (count : Nat) : List Byte := settlementFields r ++ field 1 count

/-- R140. -/
def ownFetchSettlement (_ : Request) (operands : List Byte) (s : State) : Answer :=
  withoutOperands (fun s =>
    match s.tracker.queue with
    | [] => refuse .empty s
    | r :: _ => ⟨.done, settlementData r s.tracker.queue.length, s⟩) operands s

/-- R141: the operand is a record number of two bytes (R176). -/
def ownReleaseSettlement (_ : Request) (operands : List Byte) (s : State) : Answer :=
  if operands.length ≠ 2 then refuse .badRequest s
  else match s.tracker.queue with
    | [] => refuse .empty s
    | r :: _ =>
      if r.number = unbe operands then
        ⟨.done, field 1 (s.tracker.queue.length - 1),
          { s with tracker := { s.tracker with queue := s.tracker.queue.drop 1 } }⟩
      else ⟨.mismatch, settlementData r s.tracker.queue.length, s⟩

/-! ## Notices (R184) -/

/-- R4, R184: the payload of a NOTICE: each pending kind with its value, in ascending code. -/
def noticePayload (pending : List (Notice × Int)) : List Byte :=
  pending.flatMap fun p => field 1 p.1.code ++ signedField 4 p.2

/-- R184: a NOTICE frame is built. -/
def buildNotice (s : State) : State :=
  if s.mgmt.notices ≠ [] ∧ s.freeSlot .notice = true ∧ s.mgmt.noticeDue = none then
    let s1 := s.place { quota := .notice, destination := s.tables.t14.destination, kind := kindNotice
                        payload := noticePayload s.mgmt.notices, echo := none, endsPart := false }
    { s1 with mgmt := { s1.mgmt with notices := [], noticeDue := some (s.now + second) } }
  else s

/-- R184: the notice interval expires. -/
def noticeIntervalEffect (s : State) : State :=
  match s.mgmt.noticeDue with
  | none => s
  | some due =>
    let s1 := s.advanceTo due
    { s1 with mgmt := { s1.mgmt with noticeDue := none } }

/-! ## The commands -/

/-- BAD_REQUEST_CODE (R175). -/
def execBadRequestCode (s : State) : Host.Outcome State Fault Refusal :=
  act s (serve .badRequestCode fun _ _ s => refuse .badRequest s)

/-- READ (R177). -/
def execRead (s : State) : Host.Outcome State Fault Refusal := act s (serve .read ownRead)

/-- READ_ON (R178). -/
def execReadOn (s : State) : Host.Outcome State Fault Refusal := act s (serve .readOn ownReadOn)

/-- WRITE_T0 (R22). -/
def execWriteT0 (s : State) : Host.Outcome State Fault Refusal := act s (serve .writeT0 writeRequest0)

/-- WRITE_T1 (R31). -/
def execWriteT1 (s : State) : Host.Outcome State Fault Refusal := act s (serve .writeT1 (writeRequest 1 ownT1))

/-- WRITE_T2 (R66). -/
def execWriteT2 (s : State) : Host.Outcome State Fault Refusal := act s (serve .writeT2 (writeRequest 2 ownT2))

/-- WRITE_T3 (R46). -/
def execWriteT3 (s : State) : Host.Outcome State Fault Refusal := act s (serve .writeT3 (writeRequest 3 ownT3))

/-- WRITE_T4 (R67). -/
def execWriteT4 (s : State) : Host.Outcome State Fault Refusal := act s (serve .writeT4 (writeRequest 4 ownT4))

/-- WRITE_T5 (R78). -/
def execWriteT5 (s : State) : Host.Outcome State Fault Refusal := act s (serve .writeT5 (writeRequest 5 ownT5))

/-- WRITE_T6 (R79). -/
def execWriteT6 (s : State) : Host.Outcome State Fault Refusal := act s (serve .writeT6 (writeRequest 6 ownT6))

/-- WRITE_T7 (R80). -/
def execWriteT7 (s : State) : Host.Outcome State Fault Refusal := act s (serve .writeT7 (writeRequest 7 ownT7))

/-- WRITE_T8 (R59). -/
def execWriteT8 (s : State) : Host.Outcome State Fault Refusal := act s (serve .writeT8 (writeRequest 8 ownT8))

/-- WRITE_T9 (R128). -/
def execWriteT9 (s : State) : Host.Outcome State Fault Refusal := act s (serve .writeT9 (writeRequest 9 ownT9))

/-- WRITE_T10 (R160). -/
def execWriteT10 (s : State) : Host.Outcome State Fault Refusal := act s (serve .writeT10 (writeRequest 10 ownT10))

/-- WRITE_T11 (R160). -/
def execWriteT11 (s : State) : Host.Outcome State Fault Refusal := act s (serve .writeT11 (writeRequest 11 ownT11))

/-- WRITE_T12 (R157). -/
def execWriteT12 (s : State) : Host.Outcome State Fault Refusal := act s (serve .writeT12 (writeRequest 12 ownT12))

/-- WRITE_T13 (R144). -/
def execWriteT13 (s : State) : Host.Outcome State Fault Refusal := act s (serve .writeT13 (writeRequest 13 ownT13))

/-- WRITE_T14 (R183). -/
def execWriteT14 (s : State) : Host.Outcome State Fault Refusal := act s (serve .writeT14 (writeRequest 14 ownT14))

/-- EXCHANGE (R180). -/
def execExchange (s : State) : Host.Outcome State Fault Refusal := act s (serve .exchange ownExchange)

/-- READ_STATS (R181). -/
def execReadStats (s : State) : Host.Outcome State Fault Refusal := act s (serve .readStats ownReadStats)

/-- READ_STATS_CLEAR (R18). -/
def execReadStatsClear (s : State) : Host.Outcome State Fault Refusal :=
  act s (serve .readStatsClear ownReadStatsClear)

/-- RESTART_SWEEP (R156). -/
def execRestartSweep (s : State) : Host.Outcome State Fault Refusal := act s (serve .restartSweep ownRestartSweep)

/-- RESTART_SETTLEMENT_QUEUE (R142). -/
def execRestartSettlementQueue (s : State) : Host.Outcome State Fault Refusal :=
  act s (serve .restartSettlementQueue ownRestartSettlement)

/-- RESTART_STATISTICS (R18). -/
def execRestartStatistics (s : State) : Host.Outcome State Fault Refusal :=
  act s (serve .restartStatistics ownRestartStatistics)

/-- RESET (R182). -/
def execReset (s : State) : Host.Outcome State Fault Refusal := act s (serve .reset ownReset)

/-- START_ALLOCATION (R60). -/
def execStartAllocation (s : State) : Host.Outcome State Fault Refusal := act s (serve .startAllocation ownStart)

/-- STOP_ALLOCATION (R61). -/
def execStopAllocation (s : State) : Host.Outcome State Fault Refusal := act s (serve .stopAllocation ownStop)

/-- SET_MODE (R117). -/
def execSetMode (s : State) : Host.Outcome State Fault Refusal := act s (serve .setMode ownSetMode)

/-- TRIP (R119). -/
def execTrip (s : State) : Host.Outcome State Fault Refusal := act s (serve .trip ownTrip)

/-- RESUME (R124). -/
def execResume (s : State) : Host.Outcome State Fault Refusal := act s (serve .resume ownResume)

/-- START_SWEEP (R145). -/
def execStartSweep (s : State) : Host.Outcome State Fault Refusal := act s (serve .startSweep ownStartSweep)

/-- STOP_SWEEP (R154). -/
def execStopSweep (s : State) : Host.Outcome State Fault Refusal := act s (serve .stopSweep ownStopSweep)

/-- CLOSE_PERIOD (R168). -/
def execClosePeriod (s : State) : Host.Outcome State Fault Refusal := act s (serve .closePeriod ownClosePeriod)

/-- FETCH_BILLING (R171). -/
def execFetchBilling (s : State) : Host.Outcome State Fault Refusal := act s (serve .fetchBilling ownFetchBilling)

/-- RELEASE_BILLING (R171). -/
def execReleaseBilling (s : State) : Host.Outcome State Fault Refusal :=
  act s (serve .releaseBilling ownReleaseBilling)

/-- FETCH_SETTLEMENT (R140). -/
def execFetchSettlement (s : State) : Host.Outcome State Fault Refusal :=
  act s (serve .fetchSettlement ownFetchSettlement)

/-- RELEASE_SETTLEMENT (R141). -/
def execReleaseSettlement (s : State) : Host.Outcome State Fault Refusal :=
  act s (serve .releaseSettlement ownReleaseSettlement)

/-- NOTICE_FRAME_BUILT (R184). -/
def execNoticeFrameBuilt (s : State) : Host.Outcome State Fault Refusal := act s buildNotice

/-- NOTICE_INTERVAL_EXPIRY (R184). -/
def execNoticeIntervalExpiry (s : State) : Host.Outcome State Fault Refusal := act s noticeIntervalEffect

end Sys2Proof.Machine
end

