-- ==== Sys2Proof/Machine/WorksClock.lean ====
section
/-! DEFINITION. The Works Clock (chapter 2): counting, and the judgement of TIME frames. -/

namespace Sys2Proof.Machine

/-- R40: how many days `new` lies after `old`, modulo 65 536. -/
def daysAhead (old new : Nat) : Nat := (new + 65536 - old) % 65536

/-- R40: a day is later when it lies 1 to 32 767 days ahead. -/
def laterDay (old new : Nat) : Bool := 1 ≤ daysAhead old new && daysAhead old new ≤ 32767

/-- R40: whether the clock adopts a time that passed the range checks. -/
def adopts (c : Clock) (seconds day : Nat) : Bool :=
  match c.state with
  | .invalid => true
  | _ => if day = c.day then c.seconds / 1800 * 1800 ≤ seconds else laterDay c.day day

/-- R42, R43: 600 s of internal time. -/
def adoptionInterval : Nat := 600 * second

/-- R42: adoption, and its reports to the Export Tracker: the day advance first, then the clock step (R129). -/
def adoptTime (seconds day : Nat) (dayType : DayType) (s : State) : State :=
  let old := s.clock
  let s1 : State := { s with clock :=
    { seconds := seconds, day := day, dayType := dayType, state := .valid
      nextCount := some (s.now + second), adoptionDue := some (s.now + adoptionInterval) } }
  if old.state = .invalid then s1
  else
    let later := laterDay old.day day
    let s2 := if later then rollSchedule (daysAhead old.day day) s1 else s1
    if later ∨ (day = old.day ∧ old.seconds / 1800 < seconds / 1800) then trackerClockStep s2 else s2

/-- R40, R41: a TIME frame from the admitted clock station is adopted or rejected. -/
def judgeTime (payload : List Byte) (s : State) : State :=
  let seconds := unbe (payload.take 4)
  let day := unbe ((payload.drop 4).take 2)
  match dayTypeOfCode (unbe ((payload.drop 6).take 1)) with
  | some dayType =>
    if seconds ≤ 86399 ∧ adopts s.clock seconds day = true then adoptTime seconds day dayType s
    else s.notice .timeRejected (seconds : Int)
  | none => s.notice .timeRejected (seconds : Int)

/-- R39: one second is counted; at midnight the day advances and the schedule rolls (R129). -/
def countSecond (s : State) : State :=
  match s.clock.nextCount with
  | none => s
  | some due =>
    let s1 := s.advanceTo due
    let c := s1.clock
    if c.seconds < 86399 then
      { s1 with clock := { c with seconds := c.seconds + 1, nextCount := some (due + second) } }
    else
      rollSchedule 1 { s1 with clock :=
        { c with seconds := 0, day := (c.day + 1) % 65536, nextCount := some (due + second) } }

/-- R43: the adoption interval expires in VALID. -/
def adoptionEffect (s : State) : State :=
  match s.clock.adoptionDue with
  | none => s
  | some due =>
    if s.clock.state = .valid then
      let s1 := s.advanceTo due
      { s1 with clock := { s1.clock with state := .free, adoptionDue := none } }
    else s

/-- CLOCK_SECOND_COUNT (R39). -/
def execClockSecondCount (s : State) : Host.Outcome State Fault Refusal := act s countSecond

/-- ADOPTION_INTERVAL_EXPIRY (R43). -/
def execAdoptionIntervalExpiry (s : State) : Host.Outcome State Fault Refusal := act s adoptionEffect

end Sys2Proof.Machine
end

