-- ==== Sys2Proof/Machine/RingPort.lean ====
section
/-! DEFINITION. The Works Ring Port (chapter 1): receiving, the output arbiter, own frames, the lap watch. -/

namespace Sys2Proof.Machine

/-! ## Own frames coming back -/

/-- R18: the value of the LAP-MISS counter. -/
def State.lapMisses (s : State) : Nat := s.port.stats.getD Counter.lapMiss.index 0

/-- R16: the ring state moves, with its notice. -/
def setRingState (r : RingState) (notice : Option Notice) (s : State) : State :=
  let s1 : State := { s with port := { s.port with ringState := r } }
  match notice with
  | some k => s1.notice k (s1.lapMisses : Int)
  | none => s1

/-- R14: the sequence stands in the own-frame set. -/
def State.isOwnSeq (s : State) (seq : Byte) : Bool := s.port.ownSet.any fun e => e.seq == seq

/-- R14: a sequence leaves the own-frame set, and its lap timer stops. -/
def removeOwn (seq : Byte) (s : State) : State :=
  { s with port := { s.port with ownSet := s.port.ownSet.filter fun e => e.seq != seq } }

/-- R6, R16: a good return. -/
def goodReturn (seq : Byte) (s : State) : State :=
  let s1 := (removeOwn seq s).count .stripped
  let s2 : State := { s1 with port := { s1.port with missCount := 0 } }
  setRingState .closed (if s.port.ringState = .open then some .ringRestored else none) s2

/-- R6: a return whose sequence is not in the own-frame set. -/
def stationConflict (seq : Byte) (s : State) : State :=
  (s.count .stationConflict).notice .stationConflict (seq.toNat : Int)

/-- R6: a frame with the part's own source is stripped. -/
def strip (f : List Byte) (s : State) : State :=
  let s1 := if payloadOk f then s else s.count .payloadCheck
  if s1.isOwnSeq (frameSeq f) then goodReturn (frameSeq f) s1 else stationConflict (frameSeq f) s1

/-! ## Frames of other stations -/

/-- R173: 8 requests. -/
def requestCapacity : Nat := 8

/-- R8, R173: a consumed request joins the request queue, or is discarded at a full one. -/
def takeRequest (f : List Byte) (s : State) : State :=
  if s.mgmt.queue.length < requestCapacity then
    { s with mgmt := { s.mgmt with queue := s.mgmt.queue ++ [⟨frameSource f, frameSeq f, framePayload f⟩] } }
  else s.count .mgmtOverrun

/-- R9, R27: the content of a SAMPLE is offered to the Input Registry, and to the Meter Sweep Engine when it is
addressed to the part; only an admitted station's content is used. -/
def offerSample (f : List Byte) (s : State) : State :=
  match s.admitted (frameSource f) with
  | none => s
  | some b =>
    let entries := sampleEntries (framePayload f)
    let s1 := takeSample entries b.role b.index s
    if b.role = .heatMeter ∧ frameDestination f = s.pins.station then
      meterReply (frameSource f) (frameSeq f) entries s1
    else s1

/-- R9, R40: the content of a TIME frame is offered to the Works Clock. -/
def offerTime (f : List Byte) (s : State) : State :=
  match s.admitted (frameSource f) with
  | none => s
  | some b => if b.role = .clock then judgeTime (framePayload f) s else s

/-- R9: what a frame's content is offered to as it joins the transit queue. -/
def offer (f : List Byte) (s : State) : State :=
  if frameKind f = kindSample then offerSample f s
  else if frameKind f = kindTime then offerTime f s
  else s

/-- R9: 4 frames. -/
def transitCapacity : Nat := 4

/-- R9: a frame is accepted for forwarding, or refused at a full transit queue. -/
def acceptFrame (f : List Byte) (usable : Bool) (s : State) : State :=
  if s.port.transit.length < transitCapacity then
    let s1 : State := { s with port := { s.port with transit := s.port.transit ++ [⟨f, usable⟩] } }
    if usable then offer f s1 else s1
  else s.count .transitOverrun

/-- R7: the payload and the layout of a frame, and the counter of the check it fails. -/
def judgePayload (f : List Byte) (s : State) : Bool × State :=
  if payloadOk f then
    if layoutOk s.pins.station f then (true, s) else (false, s.count .layout)
  else (false, s.count .payloadCheck)

/-- R7 to R9: a frame of another station. -/
def takeForeign (f : List Byte) (s : State) : State :=
  let judged := judgePayload f s
  if judged.1 = true ∧ frameKind f = kindMgmt ∧ frameDestination f = s.pins.station then takeRequest f judged.2
  else acceptFrame f judged.1 judged.2

/-- R5: what becomes of what a flag on RING-IN ended. -/
def judgeLine (line : List Byte) (s : State) : State :=
  match lineEnd line with
  | .idle => s
  | .aborted => s.count .abort
  | .frame f =>
    if sizeOk f = false then s.count .size
    else if headerOk f = false then s.count .headerCheck
    else if frameSource f = s.pins.station then strip f s
    else takeForeign f s

/-- R1, R19: what a flag ends is judged when a flag opened it; what the first flag after a reset ends is lost, for its
reception began before the reset took effect (log entry 29). -/
def receive (line : List Byte) (s : State) : State :=
  if s.port.flagSeen then judgeLine line s else { s with port := { s.port with flagSeen := true } }

/-- FRAME_RECEIVED (R5); the time that has passed counts in every state (log entry 2). -/
def execFrameReceived (elapsed : Nat) (line : List Byte) (s : State) : Host.Outcome State Fault Refusal :=
  act (s.advanceTo (s.now + elapsed)) (receive line)

/-! ## RING-OUT -/

/-- R10: RING-OUT is free; nothing departs between a RESET's reply and its effect (log entry 17). -/
def State.ringOutFree (s : State) : Bool := s.port.ringOut == .flags && s.mgmt.resetStage != .replyLeft

/-- R10, R11: the oldest transit frame departs, a DEMAND as the Demand Governor returns it. -/
def departTransit (s : State) : State :=
  match s.port.transit with
  | [] => s
  | t :: _ =>
    if s.ringOutFree then
      let sent := if frameKind t.bytes = kindDemand then governDemand s t.bytes t.usable else (t.bytes, s)
      { sent.2 with port := { sent.2.port with ringOut := .transit sent.1 } }
    else s

/-- R11, R113: a transit frame has left. -/
def leaveTransit (s : State) : State :=
  match s.port.ringOut with
  | .transit bytes =>
    let s1 := (settleLine s).count .forwarded
    { s1 with port := { s1.port with
        transit := s1.port.transit.drop 1, ringOut := .flags, lastOut := some (.whole bytes) } }
  | _ => s

/-- R13: the first value from the counter on that is not in the own-frame set; 16 entries never fill 17 tries. -/
def nextFreeSeq (s : State) : Nat → Byte → Byte
  | 0, v => v
  | tries + 1, v => if s.isOwnSeq v then nextFreeSeq s tries (v + 1) else v

/-- R14: 16 sequences. -/
def ownCapacity : Nat := 16

/-- R13: the sequence the oldest inserted frame departs with. -/
def departSeq (f : Inserted) (s : State) : Byte :=
  match f.echo with
  | some seq => seq
  | none => nextFreeSeq s ownCapacity s.port.seqCounter

/-- R13: the oldest inserted frame may depart: the own-frame set has room, and a REPLY's sequence is not in it. -/
def mayStart (f : Inserted) (s : State) : Bool :=
  decide (s.port.ownSet.length < ownCapacity) &&
    (match f.echo with
      | some seq => !s.isOwnSeq seq
      | none => true)

/-- R13: an inserted frame with its header completed. -/
def insertedBytes (f : Inserted) (s : State) : List Byte :=
  buildFrame f.destination s.pins.station f.kind 0 (departSeq f s) 0 f.payload

/-- R10, R13, R14: the oldest inserted frame departs. -/
def departInserted (s : State) : State :=
  match s.port.insertion with
  | [] => s
  | f :: _ =>
    if s.ringOutFree = true ∧ s.port.transit = [] ∧ mayStart f s = true then
      let seq := departSeq f s
      { s with port := { s.port with
          ringOut := .inserted (insertedBytes f s) seq
          ownSet := s.port.ownSet ++ [⟨seq, none⟩]
          seqCounter := if f.echo = none then seq + 1 else s.port.seqCounter } }
    else s

/-- R15: 20 ms. -/
def lapTime : Nat := 20

/-- R17: 1 s. -/
def probeTime : Nat := second

/-- R14: the lap timer of a sequence starts, unless its frame is back already (log entry 18). -/
def startLap (seq : Byte) (s : State) : State :=
  { s with port := { s.port with
      ownSet := s.port.ownSet.map fun e => if e.seq = seq then { e with lapDue := some (s.now + lapTime) } else e } }

/-- R14, R17, R148, R182: an own frame has left. -/
def leaveInserted (s : State) : State :=
  match s.port.ringOut, s.port.insertion with
  | .inserted bytes seq, f :: rest =>
    let s1 := (startLap seq s).count .inserted
    let s2 : State := { s1 with port := { s1.port with
      insertion := rest, ringOut := .flags, lastOut := some (.whole bytes), probeDue := some (s1.now + probeTime) } }
    let s3 := if f.quota = .poll then pollLeft seq s2 else s2
    if f.endsPart then { s3 with mgmt := { s3.mgmt with resetStage := .replyLeft } } else s3
  | _, _ => s

/-- TRANSIT_FRAME_DEPARTS (R11). -/
def execTransitFrameDeparts (s : State) : Host.Outcome State Fault Refusal := act s departTransit

/-- TRANSIT_FRAME_LEFT (R11). -/
def execTransitFrameLeft (s : State) : Host.Outcome State Fault Refusal := act s leaveTransit

/-- INSERTED_FRAME_DEPARTS (R13). -/
def execInsertedFrameDeparts (s : State) : Host.Outcome State Fault Refusal := act s departInserted

/-- INSERTED_FRAME_LEFT (R14). -/
def execInsertedFrameLeft (s : State) : Host.Outcome State Fault Refusal := act s leaveInserted

/-! ## The lap watch and the probe -/

/-- R15: the consecutive lap-miss count at which the ring opens, and where it stops. -/
def missLimit : Nat := 3

/-- R15, R16: a lap is missed. -/
def missLap (seq : Byte) (s : State) : State :=
  let s1 := (removeOwn seq s).count .lapMiss
  let s2 : State := { s1 with port := { s1.port with missCount := min missLimit (s1.port.missCount + 1) } }
  if s.port.missCount + 1 = missLimit then setRingState .open (some .ringOpen) s2 else s2

/-- R14: when the lap timer of a sequence is due; none while it does not run. -/
def State.lapDueOf (s : State) (seq : Byte) : Option Nat :=
  (s.port.ownSet.find? fun e => e.seq == seq).bind fun e => e.lapDue

/-- R15: a lap timer expires. -/
def lapEffect (seq : Byte) (s : State) : State :=
  match s.lapDueOf seq with
  | some due => missLap seq (s.advanceTo due)
  | none => s

/-- R17: a probe to the part itself. -/
def probeFrame (s : State) : Inserted :=
  { quota := .probe, destination := s.pins.station, kind := kindProbe, payload := [], echo := none
    endsPart := false }

/-- R17: the probe timer expires and restarts. -/
def probeEffect (s : State) : State :=
  match s.port.probeDue with
  | none => s
  | some due =>
    let s1 := s.advanceTo due
    let s2 := if s1.freeSlot .probe then s1.place (probeFrame s1) else s1
    { s2 with port := { s2.port with probeDue := some (s1.now + probeTime) } }

/-- LAP_TIMER_EXPIRY (R15). -/
def execLapTimerExpiry (seq : Byte) (s : State) : Host.Outcome State Fault Refusal := act s (lapEffect seq)

/-- PROBE_TIMER_EXPIRY (R17). -/
def execProbeTimerExpiry (s : State) : Host.Outcome State Fault Refusal := act s probeEffect

end Sys2Proof.Machine
end

