-- ==== Sys2Proof/Machine/Resets.lean ====
section
/-! DEFINITION. The resets (R19, R20, R182). Every block takes its reset values; internal time, the free choices
and the queue of commands go on (log entry 16). -/

namespace Sys2Proof.Machine

/-- R20: straps that name no station. -/
def holdsPart (straps : Byte) : Bool := straps == 0 || straps == 255

/-- R19, R20: the part as a reset that ends leaves it, its straps just read. -/
def resetEnds (straps : Byte) (lastOut : Option LineOut) (s : State) : State :=
  let pins : Pins := { straps := straps, station := straps, resetAsserted := false, strapHold := holdsPart straps }
  State.atReset pins (if holdsPart straps then none else some (s.now + probeTime)) lastOut s.now s.freeCount
    s.pending

/-- R19: the part held by its RESET input: the station number read last stays until the release (log entry 16). -/
def resetHeld (straps : Byte) (lastOut : Option LineOut) (s : State) : State :=
  let pins : Pins := { straps := straps, station := s.pins.station, resetAsserted := true, strapHold := false }
  State.atReset pins none lastOut s.now s.freeCount s.pending

/-- R19: a frame being sent when the RESET input is asserted is ended with an abort. -/
def abortedOut (s : State) : Option LineOut :=
  match s.port.ringOut with
  | .flags => s.port.lastOut
  | .transit bytes => some (.aborted bytes)
  | .inserted bytes _ => some (.aborted bytes)

/-- POWER_ON_RESET (R19): a RESET input that is asserted goes on holding the part. -/
def execPowerOnReset (straps : Byte) (s : State) : Host.Outcome State Fault Refusal :=
  .next (if s.pins.resetAsserted then resetHeld straps none s else resetEnds straps none s)

/-- RESET_INPUT_ASSERTED (R19). -/
def execResetInputAsserted (s : State) : Host.Outcome State Fault Refusal :=
  .next (resetHeld s.pins.straps (abortedOut s) s)

/-- RESET_INPUT_RELEASED (R19); an input that is not asserted cannot be released (log entry 3). -/
def execResetInputReleased (straps : Byte) (s : State) : Host.Outcome State Fault Refusal :=
  .next (if s.pins.resetAsserted then resetEnds straps s.port.lastOut s else s)

/-- STRAPS_VALID (R20): a part held by its straps leaves reset when they read 1 to 254. -/
def execStrapsValid (straps : Byte) (s : State) : Host.Outcome State Fault Refusal :=
  .next (if s.pins.strapHold = true ∧ s.pins.resetAsserted = false ∧ holdsPart straps = false then
    resetEnds straps s.port.lastOut s else s)

/-- R182: the RESET request's DONE reply has left, and no frame is in transmission. -/
def resetDue (s : State) : Bool :=
  s.outOfReset && s.mgmt.resetStage == .replyLeft && s.port.ringOut == .flags

/-- RESET_REQUEST_EFFECT (R182). -/
def execResetRequestEffect (straps : Byte) (s : State) : Host.Outcome State Fault Refusal :=
  .next (if resetDue s then resetEnds straps s.port.lastOut s else s)

end Sys2Proof.Machine
end

