-- ==== Sys2Proof/Machine/Dispatch.lean ====
section
/-! DEFINITION. One arm per command, in the order of spec/opcode_table.json. -/

namespace Sys2Proof.Machine

def exec (i : Instr) (s : State) : Host.Outcome State Fault Refusal :=
  match i with
  | .powerOnReset straps => Sys2Proof.Machine.execPowerOnReset straps s
  | .resetInputAsserted => Sys2Proof.Machine.execResetInputAsserted s
  | .resetInputReleased straps => Sys2Proof.Machine.execResetInputReleased straps s
  | .strapsValid straps => Sys2Proof.Machine.execStrapsValid straps s
  | .frameReceived elapsed line => Sys2Proof.Machine.execFrameReceived elapsed line s
  | .transitFrameDeparts => Sys2Proof.Machine.execTransitFrameDeparts s
  | .transitFrameLeft => Sys2Proof.Machine.execTransitFrameLeft s
  | .insertedFrameDeparts => Sys2Proof.Machine.execInsertedFrameDeparts s
  | .insertedFrameLeft => Sys2Proof.Machine.execInsertedFrameLeft s
  | .lapTimerExpiry seq => Sys2Proof.Machine.execLapTimerExpiry seq s
  | .probeTimerExpiry => Sys2Proof.Machine.execProbeTimerExpiry s
  | .clockSecondCount => Sys2Proof.Machine.execClockSecondCount s
  | .adoptionIntervalExpiry => Sys2Proof.Machine.execAdoptionIntervalExpiry s
  | .blowLimitExpiry => Sys2Proof.Machine.execBlowLimitExpiry s
  | .tailExpiry => Sys2Proof.Machine.execTailExpiry s
  | .periodBoundary => Sys2Proof.Machine.execPeriodBoundary s
  | .computationCompletion => Sys2Proof.Machine.execComputationCompletion s
  | .replyTimerExpiry account => Sys2Proof.Machine.execReplyTimerExpiry account s
  | .intervalTimerExpiry => Sys2Proof.Machine.execIntervalTimerExpiry s
  | .accountVisit => Sys2Proof.Machine.execAccountVisit s
  | .retryPlacement => Sys2Proof.Machine.execRetryPlacement s
  | .noticeIntervalExpiry => Sys2Proof.Machine.execNoticeIntervalExpiry s
  | .noticeFrameBuilt => Sys2Proof.Machine.execNoticeFrameBuilt s
  | .badRequestCode => Sys2Proof.Machine.execBadRequestCode s
  | .read => Sys2Proof.Machine.execRead s
  | .readOn => Sys2Proof.Machine.execReadOn s
  | .writeT0 => Sys2Proof.Machine.execWriteT0 s
  | .writeT1 => Sys2Proof.Machine.execWriteT1 s
  | .writeT2 => Sys2Proof.Machine.execWriteT2 s
  | .writeT3 => Sys2Proof.Machine.execWriteT3 s
  | .writeT4 => Sys2Proof.Machine.execWriteT4 s
  | .writeT5 => Sys2Proof.Machine.execWriteT5 s
  | .writeT6 => Sys2Proof.Machine.execWriteT6 s
  | .writeT7 => Sys2Proof.Machine.execWriteT7 s
  | .writeT8 => Sys2Proof.Machine.execWriteT8 s
  | .writeT9 => Sys2Proof.Machine.execWriteT9 s
  | .writeT10 => Sys2Proof.Machine.execWriteT10 s
  | .writeT11 => Sys2Proof.Machine.execWriteT11 s
  | .writeT12 => Sys2Proof.Machine.execWriteT12 s
  | .writeT13 => Sys2Proof.Machine.execWriteT13 s
  | .writeT14 => Sys2Proof.Machine.execWriteT14 s
  | .exchange => Sys2Proof.Machine.execExchange s
  | .readStats => Sys2Proof.Machine.execReadStats s
  | .readStatsClear => Sys2Proof.Machine.execReadStatsClear s
  | .restartSweep => Sys2Proof.Machine.execRestartSweep s
  | .restartSettlementQueue => Sys2Proof.Machine.execRestartSettlementQueue s
  | .restartStatistics => Sys2Proof.Machine.execRestartStatistics s
  | .reset => Sys2Proof.Machine.execReset s
  | .resetRequestEffect straps => Sys2Proof.Machine.execResetRequestEffect straps s
  | .startAllocation => Sys2Proof.Machine.execStartAllocation s
  | .stopAllocation => Sys2Proof.Machine.execStopAllocation s
  | .setMode => Sys2Proof.Machine.execSetMode s
  | .trip => Sys2Proof.Machine.execTrip s
  | .resume => Sys2Proof.Machine.execResume s
  | .startSweep => Sys2Proof.Machine.execStartSweep s
  | .stopSweep => Sys2Proof.Machine.execStopSweep s
  | .closePeriod => Sys2Proof.Machine.execClosePeriod s
  | .fetchBilling => Sys2Proof.Machine.execFetchBilling s
  | .releaseBilling => Sys2Proof.Machine.execReleaseBilling s
  | .fetchSettlement => Sys2Proof.Machine.execFetchSettlement s
  | .releaseSettlement => Sys2Proof.Machine.execReleaseSettlement s

end Sys2Proof.Machine
end

