-- ==== Sys2Proof/Machine/Idle.lean ====
section
/-! DEFINITION. What the part does of itself when no command waits (log entry 1): the expiries that are due and
the acts it stands ready for; a millisecond of internal time when there is none. -/

namespace Sys2Proof.Machine

/-- The command when a timer's moment has come. -/
def dueAt (s : State) (timer : Option Nat) (c : Instr) : List Instr :=
  match timer with
  | some due => if due ≤ s.now then [c] else []
  | none => []

/-- The command when it stands ready. -/
def when (ready : Bool) (c : Instr) : List Instr := if ready then [c] else []

/-- R15: the lap timers that have run out. -/
def dueLaps (s : State) : List Instr :=
  s.port.ownSet.flatMap fun e => dueAt s e.lapDue (.lapTimerExpiry e.seq)

/-- R62: when the period timer expires; it waits for no computation, which is over by then (R64). -/
def boundaryDue (s : State) : Option Nat :=
  match s.alloc.period, s.alloc.computing with
  | some p, none => some (p.start + p.length * second)
  | _, _ => none

/-- R64: when the computation in flight completes: within 500 ms of its boundary (log entry 20). -/
def completionDue (s : State) : Option Nat :=
  s.alloc.computing.map fun n => n.takenAt + min 500 (Config.computationTime n.takenAt)

/-- R151: the reply timers that have run out. -/
def dueReplies (s : State) : List Instr :=
  s.sweep.entries.flatMap fun e =>
    match e.phase with
    | .away _ departed => dueAt s (some (departed + replyTime)) (.replyTimerExpiry e.account)
    | .queued => []

/-- R153: the interval timer acts in WAITING and SWEEPING. -/
def intervalRuns (s : State) : Bool := s.sweep.state == .waiting || s.sweep.state == .sweeping

/-- The expiries that are due. -/
def dueExpiries (s : State) : List Instr :=
  dueLaps s ++ dueAt s s.port.probeDue .probeTimerExpiry ++ dueAt s s.clock.nextCount .clockSecondCount ++
    (if s.clock.state = .valid then dueAt s s.clock.adoptionDue .adoptionIntervalExpiry else []) ++
    (if s.holder.window.state = .blowing then
      dueAt s (s.holder.window.limitTimer.map fun t => t.due) .blowLimitExpiry else []) ++
    (if s.holder.window.state = .tail then dueAt s s.holder.window.tailDue .tailExpiry else []) ++
    dueAt s (boundaryDue s) .periodBoundary ++ dueAt s (completionDue s) .computationCompletion ++ dueReplies s ++
    (if intervalRuns s then dueAt s s.sweep.intervalDue .intervalTimerExpiry else []) ++
    dueAt s s.mgmt.noticeDue .noticeIntervalExpiry

/-- R10: what RING-OUT stands ready for; a frame's transmission takes no whole millisecond (log entry 20). -/
def readyRingOut (s : State) : List Instr :=
  match s.port.ringOut with
  | .transit _ => [.transitFrameLeft]
  | .inserted _ _ => [.insertedFrameLeft]
  | .flags =>
    if s.ringOutFree then
      match s.port.transit, s.port.insertion with
      | _ :: _, _ => [.transitFrameDeparts]
      | [], f :: _ => when (mayStart f s) .insertedFrameDeparts
      | [], [] => []
    else [.resetRequestEffect s.pins.straps]

/-- R173: the service of the oldest request. -/
def readyService (s : State) : List Instr :=
  match s.mgmt.queue with
  | q :: _ => when (canServe s) (commandOf q.payload)
  | [] => []

/-- R147: a visit that would not wait. -/
def visitReady (s : State) : Bool :=
  s.sweep.state == .sweeping && !s.sweep.pastEnd &&
    (!(s.accountSetting s.sweep.cursor).enabled || (meterStation s s.sweep.cursor).isNone || canIssue s)

/-- R184: a NOTICE frame can be built. -/
def noticeReady (s : State) : Bool :=
  !s.mgmt.notices.isEmpty && s.freeSlot .notice && s.mgmt.noticeDue.isNone

/-- Everything the part stands ready for. -/
def readyCommands (s : State) : List Instr :=
  if s.outOfReset then
    dueExpiries s ++ readyRingOut s ++ readyService s ++ when (visitReady s) .accountVisit ++
      when (!s.sweep.retries.isEmpty && s.freeSlot .poll) .retryPlacement ++
      when (noticeReady s) .noticeFrameBuilt
  else []

/-- What an idle part does: a tick of one millisecond, or one of the commands it stands ready for; among several
the choice is free (log entry 21). -/
def idleChoice (s : State) : Option Instr × State :=
  match readyCommands s with
  | [] => (none, s.advanceTo (s.now + 1))
  | [c] => (some c, s)
  | c :: more => (some ((c :: more).getD (Config.tieBreak s.freeCount % (c :: more).length) c),
      { s with freeCount := s.freeCount + 1 })

end Sys2Proof.Machine
end

