-- ==== Sys2Proof/Machine/Step.lean ====
section
/-! DEFINITION. The step: the oldest waiting command, or what the part does of itself when none waits. -/

namespace Sys2Proof.Machine

/-- Takes the front command and runs exec on it with the queue's rest; with no command waiting the part does what
it stands ready for, or a millisecond passes (log entry 1). -/
def step (s : State) : Host.Outcome State Fault Refusal :=
  match s.pending with
  | c :: rest => exec c { s with pending := rest }
  | [] =>
    match idleChoice s with
    | (some c, s1) => exec c s1
    | (none, s1) => .next s1

/-- The state with the command a word spells at the front of its queue; no word spells one. -/
def State.withFetchWord (s : State) (nbits w : Nat) : State :=
  match decodeTableWord nbits w with
  | some c => { s with pending := c :: s.pending }
  | none => s

end Sys2Proof.Machine
end

