-- ==== Sys2Proof/Safety.lean ====
section
/-! DEFINITION. What holds of the part in every state a step can reach from a state where it holds, in the terms
the statements use; and the shape of a request that is served. -/

namespace Sys2Proof.Machine

/-! ## Laws that every step keeps -/

/-- R9, R14, R15: the transit queue, the own-frame set and the consecutive lap-miss count keep their bounds, and
no sequence stands in the own-frame set twice. -/
def portLaw (s : State) : Prop :=
  s.port.transit.length ≤ 4 ∧ s.port.ownSet.length ≤ 16 ∧ (s.port.ownSet.map fun e => e.seq).Nodup ∧
    s.port.missCount ≤ 3

/-- R12, R148: no quota of the insertion queue is exceeded, and the placement list has one item for each POLL
that waits in it. -/
def quotaLaw (s : State) : Prop :=
  (∀ q : Quota, s.port.insertion.countP (fun f => f.quota == q) ≤ q.slots) ∧
    s.sweep.placement.length = s.port.insertion.countP (fun f => f.quota == .poll)

/-- R55, R137, R171, R173, R178: the queues keep their capacities. -/
def capacityLaw (s : State) : Prop :=
  s.mgmt.queue.length ≤ 8 ∧ s.mgmt.cursors.length ≤ 4 ∧ s.holder.log.length ≤ 8 ∧
    s.tracker.queue.length ≤ 16 ∧ s.billing.queue.length ≤ 192

/-- R121: the allocation state is TRIPPED if and only if it is not STOPPED and the cause set is non-empty. -/
def tripLaw (s : State) : Prop :=
  s.alloc.state = .tripped ↔ s.alloc.state ≠ .stopped ∧ s.latch.causes ≠ []

/-- R116: no cause is held twice, and the first cause is absent exactly while the set is empty. -/
def causeLaw (s : State) : Prop :=
  (s.latch.causes.map fun e => e.cause).Nodup ∧ (s.latch.firstCause = none ↔ s.latch.causes = [])

/-- R62, R63, R130: a period runs and a block is current exactly while the allocation is not STOPPED, and a
computation is in flight only then. -/
def blockLaw (s : State) : Prop :=
  (s.alloc.period.isSome = true ↔ s.alloc.state ≠ .stopped) ∧
    (s.tracker.block.isSome = true ↔ s.alloc.state ≠ .stopped) ∧
    (s.alloc.computing.isSome = true → s.alloc.state ≠ .stopped)

/-- R113: a pending limit is held only by the record on the line, and a record is on the line only while a transit
frame is being sent. -/
def lineLaw (s : State) : Prop :=
  (∀ k, (s.grant k).pending.isSome = true → s.governor.onLine = some k) ∧
    (s.governor.onLine.isSome = true → ∃ bytes, s.port.ringOut = .transit bytes)

/-- R143, R147: at most four polls are outstanding and no account has two; there are none in IDLE and WAITING, and
in SWEEPING only accounts before the cursor have one. -/
def sweepLaw (s : State) : Prop :=
  s.sweep.entries.length ≤ 4 ∧ (s.sweep.entries.map fun e => e.account).Nodup ∧
    (s.sweep.state = .idle ∨ s.sweep.state = .waiting → s.sweep.entries = []) ∧
    (s.sweep.state = .sweeping → ∀ e ∈ s.sweep.entries, e.account < s.sweep.cursor)

/-- R39, R43: the clock's ranges; it counts exactly while it is not INVALID, and the adoption interval runs exactly
in VALID. -/
def clockLaw (s : State) : Prop :=
  s.clock.seconds ≤ 86399 ∧ s.clock.day ≤ 65535 ∧
    (s.clock.nextCount.isSome = true ↔ s.clock.state ≠ .invalid) ∧
    (s.clock.adoptionDue.isSome = true ↔ s.clock.state = .valid)

/-- R50, R51, R54: the current start is present exactly in BLOWING and TAIL, each timer runs only in its own state,
and STUCK is set only in IDLE. -/
def windowLaw (s : State) : Prop :=
  (s.holder.window.start.isSome = true ↔ s.holder.window.state ≠ .idle) ∧
    (s.holder.window.limitTimer.isSome = true → s.holder.window.state = .blowing) ∧
    (s.holder.window.tailDue.isSome = true ↔ s.holder.window.state = .tail) ∧
    (s.holder.window.stuck = true → s.holder.window.state = .idle)

/-- R92, R93: the origin per-mille in force and the origin counters keep their ranges. -/
def originLaw (s : State) : Prop :=
  s.alloc.rho ≤ 1000 ∧ s.alloc.recCounter ≤ 18446744073709551615 ∧ s.alloc.topCounter ≤ 18446744073709551615

/-- R22, R23, R24: what every write of the station table is judged by holds of the table itself. -/
def stationLaw (s : State) : Prop :=
  mgmtCountOk s.bindings = true ∧ uniqueBindings s.bindings = true ∧ lockoutOk s.bindings = true

/-- R18, R21, R30, R98, R159: every table, record list and counter set keeps its number of entries. -/
def shapeLaw (s : State) : Prop :=
  s.port.stats.length = 13 ∧ s.records.length = 31 ∧ s.holder.holders.length = 2 ∧
    s.governor.grants.length = 13 ∧ s.billing.accounts.length = 96 ∧
    s.tables.t0.length = 128 ∧ s.tables.t1.length = 31 ∧ s.tables.t2.length = 3 ∧ s.tables.t3.length = 2 ∧
    s.tables.t4.length = 6 ∧ s.tables.t5.length = 2 ∧ s.tables.t6.length = 4 ∧ s.tables.t9.length = 96 ∧
    s.tables.t10.length = 144 ∧ s.tables.t11.length = 8 ∧ s.tables.t12.length = 96

/-! ## A request that is served -/

/-- R173: the oldest request is `q`, its payload is `code` and `operands`, and it can be served now. -/
structure Waiting (s : State) (q : Request) (rest : List Request) (code : Nat) (operands : List Byte) : Prop where
  outOfReset : s.outOfReset = true
  queued : s.mgmt.queue = q :: rest
  payload : q.payload = BitVec.ofNat 8 code :: operands
  slot : s.freeSlot .reply = true
  serving : s.mgmt.resetStage = .none

/-- R173: the part `t` once the request `q` is taken out of the queue and its REPLY is placed, carrying the request
code, a status code and data. -/
def answered (q : Request) (rest : List Request) (code status : Nat) (data : List Byte) (t : State) : State :=
  { t with
    mgmt := { t.mgmt with queue := rest }
    port := { t.port with insertion := t.port.insertion ++
      [{ quota := .reply, destination := q.station, kind := 5
         payload := BitVec.ofNat 8 code :: BitVec.ofNat 8 status :: data, echo := some q.seq
         endsPart := false }] } }

/-- The operands of a WRITE or EXCHANGE: table number, index of two bytes, then the entries (log entry 8). -/
def writeOperands (table index : Nat) (entries : List (List Byte)) : List Byte :=
  be 1 table ++ be 2 index ++ entries.flatten

/-! ## A frame that is received -/

/-- `ms` milliseconds of internal time later. -/
def State.later (s : State) (ms : Nat) : State := { s with now := s.now + ms }

/-- R5, R19: a frame stood on the line whole, its opening flag after the last reset, and passes the size check and the
header check. -/
structure GoodFrame (s : State) (line f : List Byte) : Prop where
  outOfReset : s.outOfReset = true
  opened : s.port.flagSeen = true
  ended : lineEnd line = .frame f
  size : sizeOk f = true
  header : headerOk f = true

/-- R7: a frame whose payload the part can use. -/
def usableFrame (s : State) (f : List Byte) : Bool := payloadOk f && layoutOk s.pins.station f

/-- R7: the counter of the check of its payload that a frame fails. -/
def payloadCounted (f : List Byte) (s : State) : State :=
  if payloadOk f = false then s.count .payloadCheck
  else if layoutOk s.pins.station f = false then s.count .layout
  else s

/-- R8: a usable MGMT frame addressed to the part. -/
def consumedFrame (s : State) (f : List Byte) : Prop :=
  usableFrame s f = true ∧ frameKind f = 4 ∧ frameDestination f = s.pins.station

/-- R9: the part with one more frame at the back of its transit queue. -/
def withTransit (f : List Byte) (usable : Bool) (s : State) : State :=
  { s with port := { s.port with transit := s.port.transit ++ [⟨f, usable⟩] } }

/-- R10: RING-OUT is free and the transit frame `x` is the oldest. -/
structure TransitReady (s : State) (x : TransitFrame) (rest : List TransitFrame) : Prop where
  outOfReset : s.outOfReset = true
  free : s.port.ringOut = .flags
  stage : s.mgmt.resetStage ≠ .replyLeft
  oldest : s.port.transit = x :: rest

/-- R10: RING-OUT is free, no transit frame waits, and the inserted frame `f` is the oldest. -/
structure InsertedReady (s : State) (f : Inserted) (rest : List Inserted) : Prop where
  outOfReset : s.outOfReset = true
  free : s.port.ringOut = .flags
  stage : s.mgmt.resetStage ≠ .replyLeft
  noTransit : s.port.transit = []
  oldest : s.port.insertion = f :: rest

/-! ## Governing (chapter 6) -/

/-- R101: a DEMAND is addressed to the governed station of grant record `k`, in CLAMP or REPLACE, while the
allocation is RUNNING or TRIPPED. -/
structure Governed (s : State) (f : List Byte) (k : Nat) (g : Governing) : Prop where
  demand : frameKind f = 2
  record : governedRecord s f = some k
  settings : s.tables.governing k = g
  active : s.alloc.state ≠ .stopped
  mode : g.mode ≠ .pass

/-- A setpoint as a DEMAND carries it: 4 bytes in two's complement (R4). -/
def setpointBytes (v : Int) : List Byte := be 4 (v % 4294967296).toNat

/-! ## Settings in their ranges -/

/-- R67, R100: an entry of T4 that may stand in the table. -/
def BoilerSetting.inRange (e : BoilerSetting) : Prop :=
  e = BoilerSetting.zero ∨
    (1 ≤ e.fillClass ∧ e.fillClass ≤ 4 ∧ 1 ≤ e.fmin ∧ e.fmin ≤ e.fmax ∧ e.fmax ≤ 1000000 ∧
      1 ≤ e.weight ∧ e.weight ≤ 100 ∧ 50 ≤ e.efficiency ∧ e.efficiency ≤ 99 ∧ e.ramp ≤ 100000 ∧
      (e.trip = 0 ∨ (e.fmin ≤ e.trip ∧ e.trip ≤ e.fmax)))

/-- R78, R100: an entry of T5 that may stand in the table. -/
def TurbineSetting.inRange (e : TurbineSetting) : Prop :=
  e = TurbineSetting.zero ∨
    (1 ≤ e.maxSteam ∧ e.maxSteam ≤ 1000000 ∧ e.ramp ≤ 100000 ∧ e.trip ≤ e.maxSteam)

/-- R79, R100: an entry of T6 that may stand in the table. -/
def ExchangerSetting.inRange (e : ExchangerSetting) : Prop :=
  e = ExchangerSetting.zero ∨
    (1 ≤ e.maxHeat ∧ e.maxHeat ≤ 1000000 ∧ e.defaultRequest ≤ e.maxHeat ∧ 10 ≤ e.staleness ∧
      e.staleness ≤ 600 ∧ e.ramp ≤ 100000 ∧ e.trip ≤ e.maxHeat)

/-- R80, R100: an entry of T7 that may stand in the table. -/
def FlareSetting.inRange (e : FlareSetting) : Prop :=
  e = FlareSetting.zero ∨
    (1 ≤ e.flareMax ∧ e.flareMax ≤ 1000000 ∧ e.ramp ≤ 100000 ∧ e.trip ≤ e.flareMax)

/-- R67, R78 to R80: the settings of the governed stations, in the tables or in a snapshot. -/
def plantInRange (t4 : List BoilerSetting) (t5 : List TurbineSetting) (t6 : List ExchangerSetting)
    (t7 : FlareSetting) : Prop :=
  (∀ e ∈ t4, e.inRange) ∧ (∀ e ∈ t5, e.inRange) ∧ (∀ e ∈ t6, e.inRange) ∧ t7.inRange

/-- R67, R78 to R80, R98: the settings of the governed stations are in range, in the tables and in the snapshot
of the computation in flight, and every governed and pending limit lies within 0 to 1 000 000 kW. -/
def limitLaw (s : State) : Prop :=
  plantInRange s.tables.t4 s.tables.t5 s.tables.t6 s.tables.t7 ∧
    (∀ n, s.alloc.computing = some n → plantInRange n.t4 n.t5 n.t6 n.t7) ∧
    ∀ r ∈ s.governor.grants, r.limit ≤ 1000000 ∧ ∀ p, r.pending = some p → p ≤ 1000000

/-- R5, R7: every frame of the transit queue passed the size check, and a usable one the layout check. -/
def transitLaw (s : State) : Prop :=
  ∀ x ∈ s.port.transit, sizeOk x.bytes = true ∧ (x.usable = true → layoutOk s.pins.station x.bytes = true)

/-- R113: the DEMAND on RING-OUT for the record on the line carries a setpoint between 0 and its governed limit. -/
def setpointLaw (s : State) : Prop :=
  ∀ k bytes, s.governor.onLine = some k → s.port.ringOut = .transit bytes →
    0 ≤ demandSetpoint bytes ∧ demandSetpoint bytes ≤ ((s.grant k).limit : Int)

/-- R31: an entry of T1 that may stand at a record. -/
def InputSetting.inRange (r : Nat) (e : InputSetting) : Prop :=
  e.low ≤ e.high ∧ 2 ≤ e.staleness ∧ e.staleness ≤ 600 ∧ e.low ≤ e.substitute ∧ e.substitute ≤ e.high ∧
    (isStatusRecord r = true → e.low = 0 ∧ e.high = 1)

/-- R46: an entry of T3 that may be written for a holder. -/
def HolderSetting.inRange (h : Nat) (e : HolderSetting) : Prop :=
  e.lowLow < e.low ∧ e.low < e.high ∧ e.high < e.highHigh ∧ e.highHigh ≤ 1000 ∧ e.hysteresis ≤ 100 ∧
    e.hysteresis < e.high - e.low ∧ e.target ≤ 1000 ∧ e.gain ≤ 10000 ∧ e.correctionLimit ≤ 500000 ∧
    (h = 0 → e.blowOffset = 0 ∧ e.postBlow = 0 ∧ e.maxBlow = 0) ∧
    (h ≠ 0 → e.blowOffset ≤ 300 ∧ e.postBlow ≤ 600 ∧ 60 ≤ e.maxBlow ∧ e.maxBlow ≤ 3600)

/-- R59: the entry of T8 that may be written. -/
def AllocSetting.inRange (e : AllocSetting) : Prop :=
  2 ≤ e.period ∧ e.period ≤ 60 ∧ 15 ≤ e.efficiency ∧ e.efficiency ≤ 45 ∧ e.correction ≤ 100000 ∧
    e.purchaseLimit ≤ 1000000

/-- R144: the entry of T13 that may be written. -/
def SweepSetting.inRange (e : SweepSetting) : Prop :=
  e.first ≤ e.last ∧ e.last ≤ 95 ∧ 60 ≤ e.interval ∧ e.interval ≤ 86400 ∧ e.retryLimit ≤ 3

/-- R157: an entry of T12 that may be written. -/
def AccountSetting.inRange (e : AccountSetting) : Prop :=
  e.meter ≤ 95 ∧ e.rate ≤ 50000 ∧ (e.enabled = true → 1 ≤ e.rate)

/-- R183: the entry of T14 that may be written. -/
def NoticeSetting.inRange (s : State) (e : NoticeSetting) : Prop :=
  e.destination ≠ 255 ∧ e.destination ≠ s.pins.station ∧ e.enabled.getLsbD 0 = false ∧
    e.enabled.getLsbD 14 = false ∧ e.enabled.getLsbD 15 = false

/-! ## Written entries (R176, R179) -/

/-- R176: the bytes of one entry whose fields have the widths `ws` and the unsigned values `fs`. -/
def fieldBytes (ws fs : List Nat) : List Byte := (ws.zip fs).flatMap fun p => be p.1 p.2

/-- Fields that widths can carry: one value for each width, and none too large for it. -/
def fieldsFit (ws fs : List Nat) : Prop := List.Forall₂ (fun w v => v < 256 ^ w) ws fs

/-- A signed value of 4 bytes, as the unsigned value that carries it (R176). -/
def unsigned32 (v : Int) : Nat := (v % 4294967296).toNat

/-- A value that 4 signed bytes carry. -/
def signedFits (v : Int) : Prop := -2147483648 ≤ v ∧ v ≤ 2147483647

/-- A table with entries written from an index on. -/
def written {α : Type} (table : List α) (index : Nat) (new : List α) : List α :=
  table.take index ++ new ++ table.drop (index + new.length)

/-- R179: how a WRITE to a plain table is answered. `carries s i fs a` says that the fields `fs` written at place `i`
are the entry `a` and may stand in the table; `put` writes entries from an index on. Every entry is written or
none. -/
def writeRule {α : Type} (command : Instr) (table : Nat) (cls : MgmtClass) (ws : List Nat)
    (carries : State → Nat → List Nat → α → Prop) (put : State → Nat → List α → State) : Prop :=
  ∀ (s : State) (q : Request) (rest : List Request) (index : Nat) (fs : List (List Nat)),
    fs ≠ [] → (∀ f ∈ fs, fieldsFit ws f) → index < 65536 →
    Waiting s q rest 3 (writeOperands table index (fs.map (fieldBytes ws))) → s.classOf q.station = some cls →
    (tableLength table < index + fs.length → exec command s = .next (answered q rest 3 3 [] s)) ∧
    (index + fs.length ≤ tableLength table →
      (∃ i f, fs[i]? = some f ∧ ∀ a, ¬ carries s (index + i) f a) →
      exec command s = .next (answered q rest 3 4 [] s)) ∧
    ∀ new : List α, index + fs.length ≤ tableLength table → new.length = fs.length →
      (∀ i f a, fs[i]? = some f → new[i]? = some a → carries s (index + i) f a) →
      exec command s = .next (answered q rest 3 0 [] (put s index new))

/-- R21, R22: the fields written at an entry of T0 are the binding `b`: an empty entry and the index of a management
entry take whatever is written. -/
def carriesBinding (s : State) (fs : List Nat) (b : Option Binding) : Prop :=
  match b with
  | none => fs.getD 1 0 = 0
  | some x => ∃ index, fs = [x.station.toNat, x.role.code, index, if x.ignore then 1 else 0] ∧
      x.station ≠ 0 ∧ x.station ≠ 255 ∧ x.station ≠ s.pins.station ∧
      match x.role.count with
      | some n => index < n ∧ x.index = index
      | none => x.index = 0

/-- R23: no two bindings share a station number, and no two share a role and role index, where the management roles
carry no index. -/
def bindingsDistinct (bs : List Binding) : Prop :=
  bs.Pairwise fun a b => a.station ≠ b.station ∧
    ¬ (a.role.mgmtClass = none ∧ a.role = b.role ∧ a.index = b.index)

/-- R24: with a management entry in the table, an admitted MGMT-ENGINEER entry stands in it. -/
def engineerLeft (bs : List Binding) : Prop :=
  (∃ b ∈ bs, b.role.mgmtClass ≠ none) → ∃ b ∈ bs, b.role = .mgmtEngineer ∧ b.ignore = false

/-- R24, third bullet (log entry 32): the write changes the station of the one admitted MGMT-ENGINEER entry, the only
one before and after, while another management entry remains. -/
def lastEngineerMove (old new : List (Option Binding)) : Prop :=
  let engineers := fun t : List (Option Binding) =>
    (t.filterMap id).filter fun b => b.role = .mgmtEngineer ∧ b.ignore = false
  (engineers old).length = 1 ∧ (engineers new).length = 1 ∧
    (∃ b ∈ new.filterMap id, b.role.mgmtClass ≠ none ∧ b ∉ engineers new) ∧
    ∃ (i : Nat) (a b : Binding), old[i]? = some (some a) ∧ new[i]? = some (some b) ∧
      a ∈ engineers old ∧ b ∈ engineers new ∧ a.station ≠ b.station

/-- R25: `new` over `old` rebinds a governed station. -/
def governedRebound (old new : Option Binding) : Prop :=
  ((∃ b, old = some b ∧ b.role.governed = true) ∨ ∃ b, new = some b ∧ b.role.governed = true) ∧
    old.map (fun b => (b.station, b.role, b.index)) ≠ new.map fun b => (b.station, b.role, b.index)

/-- R158, R167: an account whose meter changed. -/
def unreadGap (a : Account) : Account :=
  { a with state := .unread, baseline := none, implausible := 0, misses := 0, period := { a.period with gap := true } }

/-- R155: the outstanding poll table, the placement list and the waiting retries once the polls of the accounts
`gone` are cancelled. -/
def pollsCancelled (gone : Nat → Bool) (w t : Sweep) : Prop :=
  t.entries = w.entries.filter (fun e => !gone e.account) ∧
    t.retries = w.retries.filter (fun a => !gone a) ∧
    t.placement = w.placement.map fun item => if item.any gone then none else item

end Sys2Proof.Machine
end

