-- ==== Sys2Proof/Certificates/Slice0/Obligations.lean ====
section
/-! DEFINITION. The statements for the provers. A `code` of a request is that of R174, a status code that of R175. -/

open Sys2Proof Sys2Proof.Machine

/-! ## The step and the resets -/

/-- A waiting command is what a step runs, on the part with the rest of the queue. -/
def Obligations.StepRunsFront : Prop :=
  ∀ (s : State) (c : Instr) (rest : List Instr),
    s.pending = c :: rest → step s = exec c { s with pending := rest }

/-- The model's choice (log entries 1 and 21): with no command waiting, a part that stands ready for nothing lets a
millisecond pass, and otherwise runs one of the commands it stands ready for. -/
def Obligations.IdleStep : Prop :=
  ∀ s : State, s.pending = [] →
    (readyCommands s = [] → step s = .next (s.later 1)) ∧
    (readyCommands s ≠ [] → ∃ c ∈ readyCommands s, ∃ n, step s = exec c { s with freeCount := n })

/-- The model's choices (log entries 1, 3 and 16): every command of every state ends in a next state, an event that
cannot occur doing nothing, and leaves the waiting commands alone, a reset too; and every step, which takes its command
out of the queue first, ends in a next state. -/
def Obligations.EveryCommandCompletes : Prop :=
  (∀ (c : Instr) (s : State), ∃ t, exec c s = .next t ∧ t.pending = s.pending) ∧
    ∀ s : State, ∃ t, step s = .next t

/-- What the spec gives the part after reset, every field of every block but the sweep copy, which the spec gives no
value (log entry 23), and what a reset is handed; that no flag has been received yet is log entry 29. Every law of the
part holds of it right after power-on. -/
def Obligations.ResetValues : Prop :=
  (∀ (pins : Pins) (probe : Option Nat) (out : Option LineOut) (now n : Nat) (pending : List Instr),
      let t := State.atReset pins probe out now n pending
      t.port = { flagSeen := false, transit := [], insertion := [], ringOut := .flags, ownSet := [], seqCounter := 0
                 missCount := 0, ringState := .unknown, probeDue := probe, stats := List.replicate 13 0
                 lastOut := out } ∧
      t.tables = {
        t0 := List.replicate 128 none
        t1 := (List.range 31).map fun r =>
          if r = 8 ∨ (9 ≤ r ∧ r ≤ 14) ∨ r = 17 ∨ r = 18 ∨ r = 20 ∨ r = 22 ∨ r = 24 ∨ r = 26 ∨ r = 29 ∨ r = 30
          then { low := 0, high := 1, staleness := 600, substitute := 0 }
          else { low := -2147483648, high := 2147483647, staleness := 600, substitute := 0 }
        t2 := [0, 0, 0]
        t3 := List.replicate 2 { lowLow := 0, low := 0, high := 0, highHigh := 0, hysteresis := 0, target := 0, gain := 0
                                 correctionLimit := 0, blowOffset := 0, postBlow := 0, maxBlow := 0 }
        t4 := List.replicate 6 { fillClass := 0, fmin := 0, fmax := 0, weight := 0, efficiency := 0, mode := .pass
                                 ramp := 0, trip := 0 }
        t5 := List.replicate 2 { maxSteam := 0, mode := .pass, ramp := 0, trip := 0 }
        t6 := List.replicate 4 { maxHeat := 0, defaultRequest := 0, staleness := 0, mode := .pass, ramp := 0, trip := 0 }
        t7 := { flareMax := 0, mode := .pass, ramp := 0, trip := 0 }
        t8 := { period := 10, efficiency := 0, correction := 0, topUp := false, purchaseLimit := 0 }
        t9 := List.replicate 96 none
        t10 := List.replicate 144 0
        t11 := List.replicate 8 0
        t12 := List.replicate 96 { enabled := false, meter := 0, rate := 0 }
        t13 := { mode := .single, first := 0, last := 0, interval := 0, retryLimit := 2 }
        t14 := { destination := 0, enabled := 0 } } ∧
      t.records = List.replicate 31 { value := 0, quality := .absent, arrival := none, candidate := none, agreed := false } ∧
      t.clock = { seconds := 0, day := 0, dayType := .workday, state := .invalid, nextCount := none
                  adoptionDue := none } ∧
      t.holder = { holders := List.replicate 2 { band := .unknown, level := none }, log := []
                   window := { state := .idle, stuck := false, start := none, previousStart := none, lastInterval := none
                               keptStart := none, limitTimer := none, tailDue := none } } ∧
      t.alloc = {
        state := .stopped, period := none, computing := none, settingsLoaded := false, rho := 1000, recCounter := 0
        topCounter := 0
        summary := {
          period := 0, mode := .heatFirst, island := false, state := none, inputSubstituted := false, short := false
          heatShort := false, exportShort := false, available := [0, 0, 0], corrections := [0, 0], fuel := 0
          byProduct := List.replicate 6 0, topUp := List.replicate 6 0, excess := 0, flareGrant := 0, heldExcess := 0
          pool := 0, demand := 0, exportTarget := 0, tolerance := 0, siteLoad := 0, turbineCap := 0, turbineNeed := 0
          turbineHigh := 0, heat := 0, turbine := 0, dump := 0, topHeat := 0, shortfall := 0
          exchangerShares := List.replicate 4 0, turbineShares := [0, 0], rho := 0 } } ∧
      t.governor = { grants := List.replicate 13 { grant := 0, limit := 0, pending := none, lastRequest := none
                                                   lastPassed := none }, onLine := none } ∧
      t.latch = { mode := .heatFirst, island := false, causes := [], firstCause := none } ∧
      t.tracker = { block := none, attributed := 0, pendingLoss := 0, nextNumber := 0, queue := [] } ∧
      t.sweep = { state := .idle, number := 0, copy := t.sweep.copy, cursor := 0, startStamp := none, intervalDue := none
                  overrun := false, entries := [], placement := [], retries := [], tallyRead := 0, tallyFault := 0
                  tallyMissed := 0 } ∧
      t.billing = { accounts := List.replicate 96 {
                      state := .disabled, baseline := none, implausible := 0, misses := 0
                      energies := List.replicate 8 0
                      period := { first := none, last := none, missed := 0, fault := 0, rejected := 0, gap := false
                                  baseline := false } }
                    queue := [], closeCounter := 0, periodStart := none } ∧
      t.mgmt = { queue := [], cursors := [], notices := [], noticeDue := none, resetStage := .none }) ∧
    let s := State.reset
    portLaw s ∧ quotaLaw s ∧ capacityLaw s ∧ tripLaw s ∧ causeLaw s ∧ blockLaw s ∧ lineLaw s ∧ sweepLaw s ∧
      clockLaw s ∧ windowLaw s ∧ originLaw s ∧ stationLaw s ∧ shapeLaw s ∧ limitLaw s ∧ transitLaw s ∧ setpointLaw s

/-- The four ways a reset ends: the part takes its reset values with the straps read as its station number, or
holds itself on straps of 0 or 255. What goes on through a reset (internal time, the RESET input at power-on) is
the model's choice (log entry 16). -/
def Obligations.ResetsEnd : Prop :=
  ∀ (s : State) (straps : Byte),
    let pins : Bool → Pins := fun hold =>
      { straps := straps, station := straps, resetAsserted := false, strapHold := hold }
    let running := fun out => State.atReset (pins false) (some (s.now + 1000)) out s.now s.freeCount s.pending
    let held := fun out => State.atReset (pins true) none out s.now s.freeCount s.pending
    let good := straps ≠ 0 ∧ straps ≠ 255
    (s.pins.resetAsserted = false →
      (good → exec (.powerOnReset straps) s = .next (running none)) ∧
      (¬ good → exec (.powerOnReset straps) s = .next (held none))) ∧
    (s.pins.resetAsserted = true →
      (good → exec (.resetInputReleased straps) s = .next (running s.port.lastOut)) ∧
      (¬ good → exec (.resetInputReleased straps) s = .next (held s.port.lastOut))) ∧
    (s.pins.strapHold = true → s.pins.resetAsserted = false →
      (good → exec (.strapsValid straps) s = .next (running s.port.lastOut)) ∧
      (¬ good → exec (.strapsValid straps) s = .next s)) ∧
    (s.outOfReset = true → s.mgmt.resetStage = .replyLeft → s.port.ringOut = .flags →
      (good → exec (.resetRequestEffect straps) s = .next (running s.port.lastOut)) ∧
      (¬ good → exec (.resetRequestEffect straps) s = .next (held s.port.lastOut)))

/-- An asserted RESET input takes every block to its reset values, holds the part, and ends a frame being sent with
an abort; that the station number stays until the release is the model's choice (log entry 16). A part held in reset
receives no frame and does nothing of its own: a frame that ends passes time only (the model's choice, log entry 2),
and every other command but a reset changes nothing. What the first flag after a reset ends is lost, judged and counted
nowhere (log entry 29). -/
def Obligations.HeldPart : Prop :=
  ∀ s : State,
    (∃ t, exec .resetInputAsserted s = .next t ∧
      t = State.atReset { s.pins with resetAsserted := true, strapHold := false } none t.port.lastOut s.now
        s.freeCount s.pending ∧
      t.outOfReset = false ∧ t.port.ringOut = .flags ∧
      (∀ bytes, s.port.ringOut = .transit bytes → t.port.lastOut = some (.aborted bytes)) ∧
      (∀ bytes seq, s.port.ringOut = .inserted bytes seq → t.port.lastOut = some (.aborted bytes)) ∧
      (s.port.ringOut = .flags → t.port.lastOut = s.port.lastOut)) ∧
    (s.outOfReset = false →
      (∀ ms line, exec (.frameReceived ms line) s = .next (s.later ms)) ∧
      ∀ c : Instr, (∀ x, c ≠ .powerOnReset x) → c ≠ .resetInputAsserted → (∀ x, c ≠ .resetInputReleased x) →
        (∀ x, c ≠ .strapsValid x) → (∀ ms line, c ≠ .frameReceived ms line) → exec c s = .next s) ∧
    (s.outOfReset = true → s.port.flagSeen = false → ∀ ms line, exec (.frameReceived ms line) s =
      .next { s.later ms with port := { s.port with flagSeen := true } })

/-! ## The line and reception -/

/-- R2, R3: what the part stuffs a receiver reads back, whatever the bytes, and an escape before the flag is an abort; a
frame the part builds passes its own reception checks and carries what it was built from. A stuffed byte is the escape
and the byte XOR 0x20, and the check takes each byte most significant bit first by its generator from 0xFFFF. -/
def Obligations.FramesRoundTrip : Prop :=
  (∀ f : List Byte, stuff f = f.flatMap fun b => if b = 0xA5 ∨ b = 0xA6 then [0xA6, b ^^^ 0x20] else [b]) ∧
  (check [] = 0xFFFF#16 ∧ ∀ (bytes : List Byte) (b : Byte), check (bytes ++ [b]) =
    [7, 6, 5, 4, 3, 2, 1, 0].foldl (fun (r : BitVec 16) (i : Nat) =>
      if (r.msb ^^ b.getLsbD i) = true then (r <<< 1) ^^^ 0x1021#16 else r <<< 1) (check bytes)) ∧
  (∀ f : List Byte, f ≠ [] → lineEnd (stuff f) = .frame f) ∧
    (∀ f : List Byte, lineEnd (stuff f ++ [escapeByte]) = .aborted) ∧
    (∀ f : List Byte, flagByte ∉ stuff f) ∧
    ∀ (d src seq spare : Byte) (kind tags : Nat) (payload : List Byte),
      src ≠ 0 → kind < 32 → tags < 8 → payload.length ≤ 120 →
      let f := buildFrame d src kind tags seq spare payload
      sizeOk f = true ∧ headerOk f = true ∧ payloadOk f = true ∧ frameDestination f = d ∧ frameSource f = src ∧
        frameKind f = kind ∧ frameTags f = tags ∧ frameSeq f = seq ∧ frameSpare f = spare ∧ framePayload f = payload

/-- R5, the three checks in their order, of a line that a flag opened: a frame that fails one is counted, and nothing
else changes. -/
def Obligations.ReceptionChecks : Prop :=
  ∀ (s : State) (ms : Nat) (line : List Byte), s.outOfReset = true → s.port.flagSeen = true →
    (lineEnd line = .idle → exec (.frameReceived ms line) s = .next (s.later ms)) ∧
    (lineEnd line = .aborted → exec (.frameReceived ms line) s = .next ((s.later ms).count .abort)) ∧
    ∀ f, lineEnd line = .frame f →
      let len := (f.getD 4 0).toNat
      let badSize := f.length < 8 ∨ 130 < f.length ∨ 120 < len ∨ (len = 0 ∧ f.length ≠ 8) ∨
        (1 ≤ len ∧ f.length ≠ 10 + len) ∨ f.getD 1 0 = 0
      (badSize → exec (.frameReceived ms line) s = .next ((s.later ms).count .size)) ∧
      (¬ badSize → be 2 (check (f.take 6)).toNat ≠ (f.drop 6).take 2 →
        exec (.frameReceived ms line) s = .next ((s.later ms).count .headerCheck))

/-- R6: a frame with the part's own source is stripped whatever its payload check shows, a good return or a station
conflict; a good return acts on the ring state as R16 gives. -/
def Obligations.OwnFrameStripped : Prop :=
  ∀ (s : State) (ms : Nat) (line f : List Byte), GoodFrame s line f → frameSource f = s.pins.station →
    let s1 := if payloadOk f = true then s.later ms else (s.later ms).count .payloadCheck
    let seq := frameSeq f
    ((∃ e ∈ s.port.ownSet, e.seq = seq) →
      let s2 := s1.count .stripped
      let t : State := { s2 with port := { s2.port with
        ownSet := s.port.ownSet.filter fun e => e.seq != seq, missCount := 0, ringState := .closed } }
      exec (.frameReceived ms line) s = .next
        (if s.port.ringState = .open then t.notice .ringRestored ((t.port.stats.getD 10 0 : Nat) : Int) else t)) ∧
    ((∀ e ∈ s.port.ownSet, e.seq ≠ seq) →
      exec (.frameReceived ms line) s =
        .next ((s1.count .stationConflict).notice .stationConflict (seq.toNat : Int)))

/-- R3, R4, R7 to R9, R173: the payload check and the layout check of a frame, by its bytes, and the counter of the one
it fails: a usable frame passes both. A usable MGMT frame addressed to the part is consumed whatever the transit queue holds, and joins the
request queue or is counted and discarded at a full one; any other frame of another station joins the transit queue,
usable or not, or is refused at a full one, and nothing but a usable SAMPLE or TIME is offered at its arrival. -/
def Obligations.ForeignFrameTaken : Prop :=
  (∀ (s : State) (f : List Byte),
    let kind := (f.getD 2 0).toNat / 8
    let tags := (f.getD 2 0).toNat % 8
    let len := (f.getD 4 0).toNat
    let payload := (f.drop 8).take len
    let checked := len = 0 ∨ be 2 (check payload).toNat = (f.drop (8 + len)).take 2
    let fits := (kind = 1 → tags = 0 ∧ len % 6 = 0 ∧ 6 ≤ len ∧ len ≤ 120) ∧
      (kind = 2 → tags ≤ 3 ∧ len = 6 + 6 * tags) ∧ (kind = 7 → tags = 0 ∧ len = 7) ∧
      (kind = 4 → f.getD 0 0 = s.pins.station → tags = 0 ∧ 1 ≤ len)
    frameDestination f = f.getD 0 0 ∧ frameSource f = f.getD 1 0 ∧ frameKind f = kind ∧ frameTags f = tags ∧
      frameSeq f = f.getD 3 0 ∧ framePayload f = payload ∧
      (payloadOk f = true ↔ checked) ∧ (layoutOk s.pins.station f = true ↔ fits) ∧
      (usableFrame s f = true ↔ checked ∧ fits) ∧
      (¬ checked → payloadCounted f s = s.count .payloadCheck) ∧
      (checked → ¬ fits → payloadCounted f s = s.count .layout) ∧ (checked → fits → payloadCounted f s = s)) ∧
  ∀ (s : State) (ms : Nat) (line f : List Byte), GoodFrame s line f → frameSource f ≠ s.pins.station →
    (consumedFrame s f →
      (s.mgmt.queue.length < 8 → exec (.frameReceived ms line) s = .next { s.later ms with
        mgmt := { s.mgmt with queue := s.mgmt.queue ++
          [{ station := frameSource f, seq := frameSeq f, payload := framePayload f }] } }) ∧
      (8 ≤ s.mgmt.queue.length → exec (.frameReceived ms line) s = .next ((s.later ms).count .mgmtOverrun))) ∧
    (¬ consumedFrame s f →
      let counted := payloadCounted f (s.later ms)
      (4 ≤ s.port.transit.length →
        exec (.frameReceived ms line) s = .next (counted.count .transitOverrun)) ∧
      (s.port.transit.length < 4 → (usableFrame s f = false ∨ (frameKind f ≠ 1 ∧ frameKind f ≠ 7)) →
        exec (.frameReceived ms line) s = .next (withTransit f (usableFrame s f) counted)))

/-- R4, R9, R27, R32, R40, R149: what a usable SAMPLE or TIME is offered to, and that only the content of an admitted
station is used: one that is bound with admission ADMIT. The entries of a SAMPLE are read from its payload 6 bytes at a
time: channel, transmitter quality, and a value in two's complement. -/
def Obligations.ContentOffered : Prop :=
  (∀ payload : List Byte, (sampleEntries payload).length = payload.length / 6 ∧
    ∀ n < payload.length / 6,
      let byte := fun i : Nat => (payload.getD (6 * n + i) 0).toNat
      let raw := ((byte 2 * 256 + byte 3) * 256 + byte 4) * 256 + byte 5
      (sampleEntries payload)[n]? = some
        { channel := byte 0, quality := byte 1
          value := if raw < 2147483648 then (raw : Int) else (raw : Int) - 4294967296 }) ∧
  (∀ (s : State) (station : Byte),
    ((∀ b ∈ s.bindings, b.station ≠ station) → s.admitted station = none) ∧
    ∀ b ∈ s.bindings, b.station = station → (∀ c ∈ s.bindings, c.station = station → c = b) →
      s.admitted station = if b.ignore = true then none else some b) ∧
  ∀ (s : State) (ms : Nat) (line f : List Byte), GoodFrame s line f → frameSource f ≠ s.pins.station →
    usableFrame s f = true → s.port.transit.length < 4 →
    let joined := withTransit f true (s.later ms)
    let entries := sampleEntries (framePayload f)
    (frameKind f = 1 ∨ frameKind f = 7 → s.admitted (frameSource f) = none →
      exec (.frameReceived ms line) s = .next joined) ∧
    ∀ b, s.admitted (frameSource f) = some b →
      (frameKind f = 1 → (b.role ≠ .heatMeter ∨ frameDestination f ≠ s.pins.station) →
        exec (.frameReceived ms line) s = .next (takeSample entries b.role b.index joined)) ∧
      (frameKind f = 1 → b.role = .heatMeter → frameDestination f = s.pins.station →
        exec (.frameReceived ms line) s = .next (meterReply (frameSource f) (frameSeq f) entries joined)) ∧
      (frameKind f = 7 → b.role = .clock →
        exec (.frameReceived ms line) s = .next (judgeTime (framePayload f) joined)) ∧
      (frameKind f = 7 → b.role ≠ .clock → exec (.frameReceived ms line) s = .next joined)

/-- R30, R32 to R34, R37: a SAMPLE's entries are arrivals at the records of the station that sent it, for each channel
the last entry that is GOOD or SUSPECT. An arrival at a measurement record is limited to its range, and one at a holder
level is evaluated, after which both levels are judged (in the order of log entry 14); one at a status record is a
refresh, a candidate, or an adoption that is handed on, and a status value other than 0 and 1 is passed over. -/
def Obligations.ArrivalRules : Prop :=
  (∀ (s : State) (entries : List SampleEntry) (role : Role) (index : Nat),
    let last := fun channel : Nat => (entries.reverse.find? fun e =>
      (e.quality == 0 || e.quality == 1) && e.channel == channel).map fun e => e.value
    let places : List (Nat × Nat) := match role with
      | .gasSource => if index < 3 then [(2 * index, 1), (2 * index + 1, 2)] else []
      | .holder => if index < 2 then [(6 + index, 1)] else []
      | .converter => if index = 0 then [(8, 1)] else []
      | .boiler => if index < 6 then [(9 + index, 1)] else []
      | .recovery => if index < 2 then [(15 + index, 1)] else []
      | .turbine => if index < 2 then [(17 + index, 1)] else []
      | .exchanger => if index < 4 then [(19 + 2 * index, 1), (20 + 2 * index, 2)] else []
      | .grid => if index = 0 then [(27, 1), (28, 2), (29, 3)] else []
      | .safety => if index = 0 then [(30, 1)] else []
      | .flare | .clock | .heatMeter | .mgmtOperator | .mgmtEngineer | .mgmtBilling => []
    takeSample entries role index s =
      places.foldl (fun t p => match last p.2 with | some v => arrivalAt p.1 v t | none => t) s) ∧
  ∀ (s : State) (r : Nat) (v : Int),
    let value := max (s.inputSetting r).low (min v (s.inputSetting r).high)
    let taken := s.setRecord r fun x => { x with
      value := value
      quality := if v < (s.inputSetting r).low ∨ (s.inputSetting r).high < v then .clamped else .good
      arrival := some s.now }
    (isStatusRecord r = false → (s.inputSetting r).low ≤ (s.inputSetting r).high →
      (r ≠ 6 → r ≠ 7 → arrivalAt r v s = taken) ∧
      ∀ h < 2, r = 6 + h → arrivalAt r v s = judgeLevel (judgeLevel (evaluateLevel h value taken) 6) 7) ∧
    (isStatusRecord r = true →
      (v ≠ 0 → v ≠ 1 → arrivalAt r v s = s) ∧
      (v = 0 ∨ v = 1 → (s.record r).agreed = true → (s.record r).value = v →
        arrivalAt r v s = s.setRecord r fun x =>
          { x with quality := .good, arrival := some s.now, candidate := none }) ∧
      (v = 0 ∨ v = 1 → ¬ ((s.record r).agreed = true ∧ (s.record r).value = v) → (s.record r).candidate = some v →
        arrivalAt r v s = handStatus r v (s.setRecord r fun _ =>
          { value := v, quality := .good, arrival := some s.now, candidate := none, agreed := true })) ∧
      (v = 0 ∨ v = 1 → ¬ ((s.record r).agreed = true ∧ (s.record r).value = v) → (s.record r).candidate ≠ some v →
        arrivalAt r v s = s.setRecord r fun x => { x with candidate := some v }))

/-- R40 to R42, R129, R133, R138: which TIME frames the clock adopts; an adoption within the current block, or in
INVALID, sets the clock alone, and one into a later block reports a day advance before the clock step; any other is
rejected with its notice event. A day advance of one day moves the second day of the schedule into the first, and one of
more days empties both. A clock step does nothing in STOPPED; otherwise it gives the current block the seconds of the
period that have run, closes it as PARTIAL and CLOCK-STEP, and opens one so marked at the clock's time. That the step is
reported with the clock VALID again, so that its seconds do not mark CLOCK-FREE, is log entry 27. -/
def Obligations.TimeJudged : Prop :=
  (∀ (s : State) (sec day code : Nat), sec < 4294967296 → day < 65536 → code < 256 →
    let payload := be 4 sec ++ be 2 day ++ be 1 code
    let ahead := (day + 65536 - s.clock.day) % 65536
    let later := 1 ≤ ahead ∧ ahead ≤ 32767
    let accepted := s.clock.state = .invalid ∨ (day = s.clock.day ∧ s.clock.seconds / 1800 * 1800 ≤ sec) ∨
      (day ≠ s.clock.day ∧ later)
    (86399 < sec ∨ 2 < code ∨ ¬ accepted → judgeTime payload s = s.notice .timeRejected (sec : Int)) ∧
    ∀ dt, dayTypeOfCode code = some dt → sec ≤ 86399 → accepted →
      let t : State := { s with clock :=
        { seconds := sec, day := day, dayType := dt, state := .valid, nextCount := some (s.now + 1000)
          adoptionDue := some (s.now + 600000) } }
      (s.clock.state = .invalid ∨ (day = s.clock.day ∧ sec / 1800 ≤ s.clock.seconds / 1800) →
        judgeTime payload s = t) ∧
      (s.clock.state ≠ .invalid → day = s.clock.day → s.clock.seconds / 1800 < sec / 1800 →
        judgeTime payload s = trackerClockStep t) ∧
      (s.clock.state ≠ .invalid → day ≠ s.clock.day →
        judgeTime payload s = trackerClockStep (rollSchedule ahead t))) ∧
  (∀ (s : State) (n : Nat), 1 ≤ n → s.tables.t9.length = 96 →
    let t := rollSchedule n s
    t.tables.t9.length = 96 ∧
    (∀ j < 96, t.tables.t9.getD j none = if n = 1 ∧ j < 48 then s.tables.t9.getD (48 + j) none else none) ∧
    { t with tables := { t.tables with t9 := s.tables.t9 } } = s) ∧
  (∀ s : State, s.alloc.state = .stopped → trackerClockStep s = s) ∧
  ∀ (s : State) (p : Period) (b : Block), s.alloc.state ≠ .stopped → s.alloc.period = some p →
    s.tracker.block = some b → s.tracker.queue.length < 16 →
    let a := (s.now - p.start) / 1000 - s.tracker.attributed
    let index := s.clock.seconds / 1800
    let opened : Block :=
      { index := index, day := s.clock.day, entry := s.tables.t9.getD index none, delivered := 0
        elapsed := s.clock.seconds - index * 1800
        flags := { partialBlock := true, trip := s.alloc.state == .tripped, island := s.latch.island, clockStep := true
                   clockFree := s.clock.state == .free, inputDegraded := false }
        handedTarget := 0, handedTolerance := 0 }
    let t := trackerClockStep s
    ∃ r, t.tracker = { block := some opened, attributed := s.tracker.attributed + a, pendingLoss := 0
                       nextNumber := (s.tracker.nextNumber + 1) % 65536, queue := s.tracker.queue ++ [r] } ∧
      r.number = s.tracker.nextNumber ∧ r.lostBefore = s.tracker.pendingLoss ∧ r.index = b.index ∧ r.day = b.day ∧
      r.actualKwh = Int.tdiv (b.delivered + s.recordValue 27 * (a : Int)) 3600 ∧
      r.flags.partialBlock = true ∧ r.flags.clockStep = true ∧ r.flags.trip = b.flags.trip ∧
      r.flags.island = b.flags.island ∧
      t.mgmt = (s.notice .settlementReady ((s.tracker.queue.length + 1 : Nat) : Int)).mgmt ∧
      { t with tracker := s.tracker, mgmt := s.mgmt } = s

/-- R35 to R38: what a boundary makes of each record: a stale one takes its substitute value, one with no arrival in
the ended period is HELD, and the judgement of one record leaves the others alone; a record on its way into SUBSTITUTED
raises its notice event, a substituted holder level goes to the Holder Monitor, and a substituted status is handed on
when it changes the value. A level judged as a level arrives is substituted in the same way and never HELD. The ascending
order of the records is log entry 13; a record with no value reads as its substitute; that a SUBSTITUTED record that is no longer stale becomes HELD, and that an
arrival at the instant the period began counts as in it, are log entry 28. -/
def Obligations.RecordsJudged : Prop :=
  (∀ (s : State) (start r : Nat), s.records.length = 31 → r < 31 →
    let x := s.record r
    let y := (judgeAll start s).record r
    (x.quality = .absent → y = x) ∧
    ∀ at_, x.quality ≠ .absent → x.arrival = some at_ →
      ((s.inputSetting r).staleness * 1000 < s.now - at_ →
        y.value = (s.inputSetting r).substitute ∧ y.quality = .substituted ∧ y.arrival = some at_ ∧
        (isStatusRecord r = true → y.candidate = none ∧ y.agreed = false)) ∧
      (s.now - at_ ≤ (s.inputSetting r).staleness * 1000 → at_ < start → y = { x with quality := .held }) ∧
      (s.now - at_ ≤ (s.inputSetting r).staleness * 1000 → start ≤ at_ → y = x)) ∧
  (∀ (s : State) (start : Nat), judgeAll start s = (List.range 31).foldl (judgeRecord start) s) ∧
  (∀ (s : State) (r : Nat), s.recordValue r = (s.readRecord r).1 ∧
    ((s.record r).quality = .absent → s.readRecord r = ((s.inputSetting r).substitute, .substituted)) ∧
    ((s.record r).quality ≠ .absent → s.readRecord r = ((s.record r).value, (s.record r).quality))) ∧
  ∀ (s : State) (start r : Nat),
    let x := s.record r
    let sub := (s.inputSetting r).substitute
    let status := isStatusRecord r = true
    let taken := s.setRecord r fun y => { y with
      value := sub, quality := .substituted
      candidate := if status then none else y.candidate, agreed := if status then false else y.agreed }
    let told := if x.quality = .substituted then taken else taken.notice .inputSubstituted (r : Int)
    let handed := if r = 6 ∨ r = 7 then evaluateLevel (r - 6) sub told
      else if status ∧ x.value ≠ sub then handStatus r sub told else told
    (x.quality = .absent → judgeRecord start s r = s ∧ judgeLevel s r = s) ∧
    ∀ at_, x.quality ≠ .absent → x.arrival = some at_ →
      ((s.inputSetting r).staleness * 1000 < s.now - at_ →
        judgeRecord start s r = handed ∧ judgeLevel s r = handed) ∧
      (s.now - at_ ≤ (s.inputSetting r).staleness * 1000 → judgeLevel s r = s ∧
        judgeRecord start s r = if at_ < start then s.setRecord r fun y => { y with quality := .held } else s)

/-- R51 to R53, R108, R113, R118, R119: what an agreed status does to the blow window, to the ISLAND overlay, as the
trip demand, and as a service status; the limit that a service status of 0 sets is held as the pending limit of a record
on the line, also when the limit in force is 0 already (log entry 26). -/
def Obligations.StatusHandedOn : Prop :=
  ∀ s : State,
    let w : BlowWindow := s.holder.window
    let withHolder := fun (log : List BlowEntry) (x : BlowWindow) =>
      { s with holder := { s.holder with log := log, window := x } }
    let previous := match w.start with | some b => some b.time | none => w.keptStart
    let maxBlow := (s.holderSetting 1).maxBlow
    let post := (s.holderSetting 1).postBlow
    let clock := if s.clock.state = .invalid then none
      else some { day := s.clock.day, seconds := s.clock.seconds : Stamp }
    (w.state = .tail ∨ (w.state = .idle ∧ w.stuck = false) → handStatus 8 1 s = withHolder s.holder.log
      { state := .blowing, stuck := w.stuck, start := some { time := s.now, clock := clock }
        previousStart := previous
        lastInterval := match previous with | some t => some ((s.now - t) / 1000) | none => w.lastInterval
        keptStart := w.keptStart
        limitTimer := if maxBlow = 0 then none else some { due := s.now + maxBlow * 1000, duration := maxBlow }
        tailDue := none }) ∧
    (w.state = .blowing ∨ (w.state = .idle ∧ w.stuck = true) → handStatus 8 1 s = s) ∧
    (w.state = .idle → handStatus 8 0 s = withHolder s.holder.log { w with stuck := false }) ∧
    (w.state = .tail → handStatus 8 0 s = s) ∧
    (∀ b, w.state = .blowing → w.start = some b → s.holder.log.length ≤ 8 →
      let entry : BlowEntry :=
        { start := b.clock, duration := min 65535 ((s.now - b.time) / 1000)
          interval := if w.previousStart = none then none else w.lastInterval, ending := .normal }
      handStatus 8 0 s = withHolder
        ((if s.holder.log.length = 8 then s.holder.log.drop 1 else s.holder.log) ++ [entry])
        { w with
          state := if post = 0 then .idle else .tail
          stuck := false, start := if post = 0 then none else some b, keptStart := some b.time
          limitTimer := none, tailDue := if post = 0 then none else some (s.now + post * 1000) }) ∧
    (s.latch.island = true → handStatus 29 0 s = s) ∧
    (s.latch.island = false →
      let marked := s.tracker.block.map fun b => { b with flags := { b.flags with island := true } }
      handStatus 29 0 s = { s with
        latch := { s.latch with island := true }
        tracker := { s.tracker with block := if s.alloc.state = .stopped then s.tracker.block else marked } }) ∧
    handStatus 29 1 s = { s with latch := { s.latch with island := false } } ∧
    handStatus 30 1 s = raiseCause .safety s ∧ handStatus 30 0 s = s ∧
    ∀ r k, (9 ≤ r ∧ r ≤ 14 ∧ k = r - 9) ∨ (17 ≤ r ∧ r ≤ 18 ∧ k = r - 11) ∨
        ((r = 20 ∨ r = 22 ∨ r = 24 ∨ r = 26) ∧ k = 8 + (r - 20) / 2) →
      handStatus r 1 s = s ∧
      { handStatus r 0 s with governor := s.governor } = s ∧
      (handStatus r 0 s).governor.onLine = s.governor.onLine ∧
      (handStatus r 0 s).governor.grants = s.governor.grants.modify k (fun g =>
        if s.governor.onLine = some k then { g with pending := some 0 } else { g with limit := 0 })

/-! ## RING-OUT -/

/-- R10, R11, R98, R101, R104: the oldest transit frame departs as it stands in the queue when it is no DEMAND, when it
is one addressed to no governed station, and in STOPPED and in PASS; a usable DEMAND to a governed station is recorded,
an unusable one records nothing. The record of a DEMAND is that of the governed role and index that its Destination is
bound to, whatever its admission. -/
def Obligations.TransitDeparts : Prop :=
  (∀ (s : State) (f : List Byte),
    ((∀ b ∈ s.bindings, b.station ≠ f.getD 0 0) → governedRecord s f = none) ∧
    ∀ b ∈ s.bindings, b.station = f.getD 0 0 → (∀ c ∈ s.bindings, c.station = b.station → c = b) →
      (b.role = .boiler → governedRecord s f = some b.index) ∧
      (b.role = .turbine → governedRecord s f = some (6 + b.index)) ∧
      (b.role = .exchanger → governedRecord s f = some (8 + b.index)) ∧
      (b.role = .flare → governedRecord s f = some 12) ∧
      (b.role ∉ [Role.boiler, .turbine, .exchanger, .flare] → governedRecord s f = none)) ∧
  ∀ (s : State) (x : TransitFrame) (rest : List TransitFrame), TransitReady s x rest →
    (frameKind x.bytes ≠ 2 ∨ governedRecord s x.bytes = none →
      exec .transitFrameDeparts s = .next { s with port := { s.port with ringOut := .transit x.bytes } }) ∧
    ∀ k, frameKind x.bytes = 2 → governedRecord s x.bytes = some k →
      s.alloc.state = .stopped ∨ (s.tables.governing k).mode = .pass →
      let v := demandSetpoint x.bytes
      let t := if x.usable = true then
          s.setGrant k fun r => { r with lastRequest := some { setpoint := v, time := s.now }, lastPassed := some v }
        else s
      exec .transitFrameDeparts s = .next { t with port := { t.port with ringOut := .transit x.bytes } }

/-- R102, R103, R104: a usable DEMAND to a governed station in CLAMP or REPLACE carries the governed setpoint; a
changed one is tagged, or marked tag-full at three tags, with both checks fresh; an unchanged one is left as it is;
the request and what is passed are recorded. That a changed one keeps the Spare byte it came with is log entry 31. -/
def Obligations.DemandGoverned : Prop :=
  ∀ (s : State) (x : TransitFrame) (rest : List TransitFrame) (k : Nat) (g : Governing), TransitReady s x rest →
    Governed s x.bytes k g → x.usable = true → k < s.governor.grants.length →
    sizeOk x.bytes = true → layoutOk s.pins.station x.bytes = true → (s.grant k).limit ≤ 2147483647 →
    let f := x.bytes
    let v := demandSetpoint f
    let lim : Int := (s.grant k).limit
    let w : Int := if g.mode = .replace then lim else max 0 (min v lim)
    let reason : Nat := if s.alloc.state = .tripped then 4 else if g.mode = .replace then 3 else 2
    let channel := (demandBody f).getD 0 0
    let flags := (demandBody f).getD 1 0
    ∃ t sent, exec .transitFrameDeparts s = .next t ∧ t.port.ringOut = .transit sent ∧
      demandSetpoint sent = w ∧
      (w = v → sent = f) ∧
      (w ≠ v → sizeOk sent = true ∧ headerOk sent = true ∧ payloadOk sent = true ∧
        frameDestination sent = frameDestination f ∧ frameSource sent = frameSource f ∧ frameSeq sent = frameSeq f ∧
        frameSpare sent = frameSpare f ∧ frameKind sent = 2 ∧
        (frameTags f < 3 → frameTags sent = frameTags f + 1 ∧
          framePayload sent = [s.pins.station, BitVec.ofNat 8 reason] ++ setpointBytes v ++ demandTags f ++
            [channel, flags] ++ setpointBytes w) ∧
        (3 ≤ frameTags f → frameTags sent = 3 ∧
          framePayload sent = demandTags f ++ [channel, flags ||| 1#8] ++ setpointBytes w)) ∧
      (t.grant k).lastRequest = some { setpoint := v, time := s.now } ∧ (t.grant k).lastPassed = some w ∧
      t.governor.onLine = some k ∧ (∀ j, (t.grant j).limit = (s.grant j).limit ∧ (t.grant j).grant = (s.grant j).grant) ∧
      { t with port := { t.port with ringOut := s.port.ringOut }, governor := s.governor } = s

/-- R105: an unusable DEMAND to a governed station is sent as it came in PASS and in STOPPED. In CLAMP or REPLACE it is
rebuilt around the limit with a HELD tag, as its header is consistent with the layout or not, and differs from what was
received; it records no request, and the limit as what was passed. -/
def Obligations.UnusableDemandHeld : Prop :=
  ∀ (s : State) (x : TransitFrame) (rest : List TransitFrame) (k : Nat), TransitReady s x rest →
    frameKind x.bytes = 2 → governedRecord s x.bytes = some k → x.usable = false → k < s.governor.grants.length →
    sizeOk x.bytes = true → (s.grant k).limit ≤ 2147483647 →
    let f := x.bytes
    let passes := s.alloc.state = .stopped ∨ (s.tables.governing k).mode = .pass
    let lim : Int := (s.grant k).limit
    let consistent := frameTags f ≤ 3 ∧ (f.getD 4 0).toNat = 6 + 6 * frameTags f
    let tag := [s.pins.station, 1#8, 0, 0, 0, 0]
    (passes → exec .transitFrameDeparts s = .next { s with port := { s.port with ringOut := .transit f } }) ∧
    (¬ passes → ∃ t sent, exec .transitFrameDeparts s = .next t ∧ t.port.ringOut = .transit sent ∧
      demandSetpoint sent = lim ∧ sizeOk sent = true ∧ headerOk sent = true ∧ payloadOk sent = true ∧
      layoutOk s.pins.station sent = true ∧ frameKind sent = 2 ∧
      (payloadOk f = false ∨ layoutOk s.pins.station f = false → sent ≠ f) ∧
      frameDestination sent = frameDestination f ∧ frameSource sent = frameSource f ∧ frameSeq sent = frameSeq f ∧
      (consistent → frameTags f < 3 → frameTags sent = frameTags f + 1 ∧
        framePayload sent = tag ++ demandTags f ++ [1, 0] ++ setpointBytes lim) ∧
      (consistent → frameTags f = 3 → frameTags sent = 3 ∧
        framePayload sent = demandTags f ++ [1, 1] ++ setpointBytes lim) ∧
      (¬ consistent → frameTags sent = 1 ∧ framePayload sent = tag ++ [1, 0] ++ setpointBytes lim) ∧
      (t.grant k).lastRequest = (s.grant k).lastRequest ∧ (t.grant k).lastPassed = some lim ∧
      t.governor.onLine = some k ∧ (∀ j, (t.grant j).limit = (s.grant j).limit) ∧
      { t with port := { t.port with ringOut := s.port.ringOut }, governor := s.governor } = s)

/-- R11, R113: when a transit frame has left, its place is freed, FORWARDED counts, and the pending limit of the
record on the line becomes its governed limit. -/
def Obligations.TransitLeaves : Prop :=
  ∀ (s : State) (bytes : List Byte), s.outOfReset = true → s.port.ringOut = .transit bytes →
    let c := s.count .forwarded
    let port := { c.port with transit := s.port.transit.drop 1, ringOut := .flags, lastOut := some (.whole bytes) }
    (s.governor.onLine = none → exec .transitFrameLeft s = .next { s with port := port }) ∧
    ∀ k, s.governor.onLine = some k → exec .transitFrameLeft s = .next { s with
      port := port
      governor :=
        { grants := s.governor.grants.modify k fun r => { r with limit := r.pending.getD r.limit, pending := none }
          onLine := none } }

/-- R13, R14: a REPLY departs with the sequence it echoes when that is not in the own-frame set; any other own frame
takes the first value from the counter on that is not in the set; a full set, or the echoed sequence in it, makes
the oldest inserted frame wait. -/
def Obligations.InsertedDeparts : Prop :=
  ∀ (s : State) (f : Inserted) (rest : List Inserted), InsertedReady s f rest →
    let inSet := fun seq => ∃ e ∈ s.port.ownSet, e.seq = seq
    let departs := fun (seq counter : Byte) =>
      exec .insertedFrameDeparts s = .next { s with port := { s.port with
        ringOut := .inserted (buildFrame f.destination s.pins.station f.kind 0 seq 0 f.payload) seq
        ownSet := s.port.ownSet ++ [{ seq := seq, lapDue := none }], seqCounter := counter } }
    (16 ≤ s.port.ownSet.length → exec .insertedFrameDeparts s = .next s) ∧
    (∀ echo, f.echo = some echo → inSet echo → exec .insertedFrameDeparts s = .next s) ∧
    (∀ echo, s.port.ownSet.length < 16 → f.echo = some echo → ¬ inSet echo → departs echo s.port.seqCounter) ∧
    (s.port.ownSet.length < 16 → f.echo = none →
      ∃ n < 16, let seq := s.port.seqCounter + BitVec.ofNat 8 n
        ¬ inSet seq ∧ (∀ m < n, inSet (s.port.seqCounter + BitVec.ofNat 8 m)) ∧ departs seq (seq + 1))

/-- R14, R17, R148, R182: when an own frame has left, the lap timer of its sequence and the probe timer start and
INSERTED counts; a POLL that has left puts the entry of the oldest placement item AWAY; the reply of a RESET request
that has left leaves the part ready for its reset. A frame that is back before it has left has no sequence in the set,
and no lap timer starts (log entry 18); that no frame departs until the reset is log entry 17. -/
def Obligations.InsertedLeaves : Prop :=
  ∀ (s : State) (bytes : List Byte) (seq : Byte) (f : Inserted) (rest : List Inserted),
    s.outOfReset = true → s.port.ringOut = .inserted bytes seq → s.port.insertion = f :: rest →
    let c := s.count .inserted
    let left : State := { s with port := { c.port with
      insertion := rest, ringOut := .flags, lastOut := some (.whole bytes), probeDue := some (s.now + 1000)
      ownSet := s.port.ownSet.map fun e => if e.seq = seq then { e with lapDue := some (s.now + 20) } else e } }
    (f.quota ≠ .poll → f.endsPart = false → exec .insertedFrameLeft s = .next left) ∧
    (f.quota ≠ .poll → f.endsPart = true → exec .insertedFrameLeft s =
      .next { left with mgmt := { s.mgmt with resetStage := .replyLeft } }) ∧
    (∀ items, f.quota = .poll → f.endsPart = false → s.sweep.placement = none :: items →
      exec .insertedFrameLeft s = .next { left with sweep := { s.sweep with placement := items } }) ∧
    (∀ a items, f.quota = .poll → f.endsPart = false → s.sweep.placement = some a :: items →
      exec .insertedFrameLeft s = .next { left with sweep := { s.sweep with
        placement := items
        entries := s.sweep.entries.map fun e =>
          if e.account = a then { e with phase := .away seq s.now } else e } })

/-- R15 to R17: a lap timer that expires removes its sequence and counts a lap miss; the third in succession opens the
ring with a notice event, and no later one moves it. The probe timer's expiry places a PROBE to the part itself when its
slot is free, and none otherwise, and restarts the timer. -/
def Obligations.LapAndProbeTimers : Prop :=
  ∀ s : State, s.outOfReset = true →
    (∀ (e : OwnFrame) (due : Nat),
      s.port.ownSet.find? (fun x => x.seq == e.seq) = some e → e.lapDue = some due →
      let c := s.count .lapMiss
      let missed : State := { s with
        now := max s.now due
        port := { c.port with
          ownSet := s.port.ownSet.filter fun x => x.seq != e.seq, missCount := min 3 (s.port.missCount + 1) } }
      (s.port.missCount ≠ 2 → exec (.lapTimerExpiry e.seq) s = .next missed) ∧
      (s.port.missCount = 2 → exec (.lapTimerExpiry e.seq) s =
        .next (({ missed with port := { missed.port with ringState := .open } }).notice .ringOpen
          ((missed.port.stats.getD 10 0 : Nat) : Int)))) ∧
    ∀ due, s.port.probeDue = some due →
      let now := max s.now due
      let probe : Inserted := { quota := .probe, destination := s.pins.station, kind := 8, payload := [], echo := none
                                endsPart := false }
      let waiting := ∃ f ∈ s.port.insertion, f.quota = .probe
      (¬ waiting → exec .probeTimerExpiry s = .next { s with now := now, port := { s.port with
        insertion := s.port.insertion ++ [probe], probeDue := some (now + 1000) } }) ∧
      (waiting → exec .probeTimerExpiry s = .next { s with now := now, port := { s.port with
        probeDue := some (now + 1000) } })

/-! ## Timers and holders -/

/-- R39, R43, R51, R53 to R55, R129: a counted second, with the day advance and the roll of the schedule past midnight;
the expiry of the adoption interval in VALID; the blow limit, which closes the window as STUCK and logs the blow with the
maximum blow time the timer was started with; and the tail's expiry, which returns the window to IDLE. -/
def Obligations.ClockAndBlowTimers : Prop :=
  ∀ s : State, s.outOfReset = true →
    (∀ due : Nat,
      (s.clock.nextCount = some due →
        (s.clock.seconds < 86399 → exec .clockSecondCount s = .next { s with
          now := max s.now due
          clock := { s.clock with seconds := s.clock.seconds + 1, nextCount := some (due + 1000) } }) ∧
        (s.clock.seconds = 86399 → exec .clockSecondCount s = .next { s with
          now := max s.now due
          clock := { s.clock with seconds := 0, day := (s.clock.day + 1) % 65536, nextCount := some (due + 1000) }
          tables := { s.tables with t9 := s.tables.t9.drop 48 ++ List.replicate 48 none } })) ∧
      (s.clock.adoptionDue = some due → s.clock.state = .valid →
        exec .adoptionIntervalExpiry s = .next { s with
          now := max s.now due, clock := { s.clock with state := .free, adoptionDue := none } })) ∧
    (∀ t, s.holder.window.state = .blowing → s.holder.window.limitTimer = some t →
      s.holder.log.length ≤ 8 →
      let w := s.holder.window
      let entry : BlowEntry :=
        { start := w.start.bind fun b => b.clock, duration := min 65535 t.duration
          interval := if w.previousStart = none then none else w.lastInterval, ending := .limit }
      exec .blowLimitExpiry s = .next { s with
        now := max s.now t.due
        holder := { s.holder with
          log := (if s.holder.log.length = 8 then s.holder.log.drop 1 else s.holder.log) ++ [entry]
          window := { w with
            state := .idle, stuck := true, start := none, limitTimer := none, tailDue := none
            keptStart := match w.start with | some b => some b.time | none => w.keptStart } } }) ∧
    (∀ due, s.holder.window.state = .tail → s.holder.window.tailDue = some due →
      exec .tailExpiry s = .next { s with
        now := max s.now due
        holder := { s.holder with window :=
          { s.holder.window with state := .idle, start := none, tailDue := none } } })

/-- R46 to R49, R120: the band a level moves to from each band of a configured holder, however many boundaries it
crosses, and where the hysteresis keeps it; an unconfigured holder stays UNKNOWN; a level handed to the Holder Monitor is
recorded, moves the band, and a change raises its notice event, and on entry into LOWLOW the trip cause. At a hysteresis
of 0 a level on a threshold moves the band at each evaluation, which is log entry 33. -/
def Obligations.LevelEvaluated : Prop :=
  (∀ (e : HolderSetting) (band : Band) (level : Int), e.configured = false → nextBand e band level = .unknown) ∧
  (∀ (e : HolderSetting) (level : Int), e.configured = true →
      e.lowLow < e.low → e.low < e.high → e.high < e.highHigh → e.hysteresis < e.high - e.low →
      let hy : Int := e.hysteresis
      let assigned : Band := if level ≤ e.lowLow then .lowLow else if level ≤ e.low then .low
        else if level < e.high then .normal else if level < e.highHigh then .high else .highHigh
      nextBand e .unknown level = assigned ∧
      nextBand e .normal level = assigned ∧
      nextBand e .highHigh level = (if (e.highHigh : Int) - hy < level then .highHigh
        else if (e.high : Int) - hy < level then .high else if (e.low : Int) < level then .normal
        else if (e.lowLow : Int) < level then .low else .lowLow) ∧
      nextBand e .high level = (if (e.highHigh : Int) ≤ level then .highHigh
        else if (e.high : Int) - hy < level then .high else if (e.low : Int) < level then .normal
        else if (e.lowLow : Int) < level then .low else .lowLow) ∧
      nextBand e .low level = (if level ≤ (e.lowLow : Int) then .lowLow
        else if level < (e.low : Int) + hy then .low else if level < (e.high : Int) then .normal
        else if level < (e.highHigh : Int) then .high else .highHigh) ∧
      nextBand e .lowLow level = (if level < (e.lowLow : Int) + hy then .lowLow
        else if level < (e.low : Int) + hy then .low else if level < (e.high : Int) then .normal
        else if level < (e.highHigh : Int) then .high else .highHigh)) ∧
  ∀ (s : State) (h : Nat) (level : Int), h < 2 →
    let old := (s.holderState h).band
    let new := nextBand (s.holderSetting h) old level
    let t : State := { s with holder := { s.holder with
      holders := s.holder.holders.set h { band := new, level := some level } } }
    let told := t.notice .holderBand ((16 * h + new.code : Nat) : Int)
    (new = old → evaluateLevel h level s = t) ∧
    (new ≠ old → new ≠ .lowLow → evaluateLevel h level s = told) ∧
    (new ≠ old → new = .lowLow → evaluateLevel h level s =
      raiseCause (if h = 0 then .lowLow0 else .lowLow1) told)

/-! ## The allocation -/

/-- R56, R62, R63, R93, R106, R132, R135: a boundary judges the records, counts the heat of the ended period by origin,
accounts its net export, restarts the period timer on T8, hands over the export target of the block that is then
current, and takes the snapshot of what then stands. The order of these is log entry 13. -/
def Obligations.BoundaryTaken : Prop :=
  ∀ (s : State) (p : Period), s.outOfReset = true → s.alloc.period = some p → s.alloc.computing = none →
    let now := max s.now (p.start + p.length * 1000)
    let judged := judgeAll p.start { s with now := now }
    let q := ((List.range 4).map fun x => if s.isBound .exchanger x = true then
      (max 0 (min (judged.recordValue (19 + 2 * x)) 1000000)).toNat else 0).sum * p.length
    let recovered := q * s.alloc.rho / 1000
    let counted : State := { judged with alloc := { judged.alloc with
      recCounter := min 18446744073709551615 (s.alloc.recCounter + recovered)
      topCounter := min 18446744073709551615 (s.alloc.topCounter + (q - recovered)) } }
    let accounted := accountBoundary p.length counted
    let length := s.tables.t8.period
    let target := match accounted.tracker.block with
      | none => (0, 0)
      | some b => exportTarget s.tables.t8.correction length b
    let holder0 := s.holderSetting 0
    let holder1 := s.holderSetting 1
    let request := fun x : Nat =>
      let e := s.tables.t6.getD x ExchangerSetting.zero
      match (judged.grant (8 + x)).lastRequest with
      | none => e.defaultRequest
      | some r => if now - r.time ≤ e.staleness * 1000 then (max 0 (min r.setpoint (e.maxHeat : Int))).toNat
        else e.defaultRequest
    ∃ t n, exec .periodBoundary s = .next t ∧
      t.now = now ∧
      t.alloc = { counted.alloc with period := some { length := length, start := now }, computing := some n } ∧
      n.takenAt = now ∧ n.period = length ∧ n.values = (List.range 31).map judged.readRecord ∧
      n.t2 = s.tables.t2 ∧ n.t3 = s.tables.t3 ∧ n.t4 = s.tables.t4 ∧ n.t5 = s.tables.t5 ∧ n.t6 = s.tables.t6 ∧
      n.t7 = s.tables.t7 ∧ n.t8 = s.tables.t8 ∧ n.mode = s.latch.mode ∧ n.island = judged.latch.island ∧
      n.state = judged.alloc.state ∧ n.bands = judged.holder.holders.map (fun h => h.band) ∧
      n.targets = [holder0.target, if judged.holder.window.state = .idle then holder1.target
        else holder1.target - holder1.blowOffset] ∧
      n.requests = [request 0, request 1, request 2, request 3] ∧
      (∀ role index, (role, index) ∈ n.bound ↔
        role ∉ [Role.clock, .heatMeter, .mgmtOperator, .mgmtEngineer, .mgmtBilling] ∧
        ∃ b ∈ s.bindings, b.role = role ∧ b.index = index) ∧
      n.exportTarget = target.1 ∧ n.tolerance = target.2 ∧
      t.tracker = { accounted.tracker with block := accounted.tracker.block.map fun b =>
        { b with handedTarget := target.1, handedTolerance := target.2 } } ∧
      t.tracker.attributed = 0 ∧ t.mgmt = accounted.mgmt ∧ t.records = judged.records ∧ t.holder = judged.holder ∧
      t.latch = judged.latch ∧ t.governor = judged.governor ∧
      t.pins = s.pins ∧ t.port = s.port ∧ t.tables = s.tables ∧ t.clock = s.clock ∧ t.sweep = s.sweep ∧
      t.billing = s.billing

/-- R65, R91, R107, R113: a completion publishes the whole summary, puts its origin per-mille in force and hands over
the grants; in RUNNING each limit, or the pending limit of the record on the line, moves toward its grant by at most
the ramp times the period, and in any other state none moves. -/
def Obligations.CompletionPublishes : Prop :=
  ∀ (s : State) (n : Snapshot), s.outOfReset = true → s.alloc.computing = some n →
    let m := compute n s.alloc.rho
    ∃ t, exec .computationCompletion s = .next t ∧
      t.alloc = { s.alloc with computing := none, summary := m, rho := m.rho } ∧
      { t with alloc := s.alloc, governor := s.governor } = s ∧
      t.governor.onLine = s.governor.onLine ∧ t.governor.grants.length = s.governor.grants.length ∧
      ∀ k < s.governor.grants.length,
        let old := s.grant k
        let new := t.grant k
        let step := (s.tables.governing k).ramp * n.period
        let moved := new.pending.getD new.limit
        new.grant = (grantsOf m).getD k 0 ∧ new.lastRequest = old.lastRequest ∧ new.lastPassed = old.lastPassed ∧
        (s.alloc.state ≠ .running → new.limit = old.limit ∧ new.pending = old.pending) ∧
        (s.governor.onLine = some k → new.limit = old.limit) ∧
        (s.governor.onLine ≠ some k → new.pending = old.pending) ∧
        (s.alloc.state = .running → (s.governor.onLine = some k ∨ old.pending = none) →
          ((s.tables.governing k).ramp = 0 → moved = new.grant) ∧
          ((s.tables.governing k).ramp ≠ 0 →
            (old.pending.getD old.limit ≤ new.grant → moved = min new.grant (old.pending.getD old.limit + step)) ∧
            (new.grant ≤ old.pending.getD old.limit → moved = max new.grant (old.pending.getD old.limit - step))))

/-- R68 to R76, R96: stages 1 to 3 turn the flows, the levels and the bands of the snapshot into the corrections and the
available fuel. The boilers' by-product grants and the excess sum to the available fuel, and each grant is 0 or lies
between the boiler's Fmin and Fmax; a boiler that is not eligible has none, SHORT tells that an eligible one has none, a
boiler rises above Fmin only when those of the classes before it are at Fmax, and fuel is left only when every boiler
with a grant is at Fmax. The boilers are offered their Fmin by class, and within a class by number, each out of what
those before it have left. A round gives each considered boiler its weighted share, or its headroom when that is less,
and another round follows when one was capped; the residue of a class goes to its boilers by number. -/
def Obligations.FillConserves : Prop :=
  (∀ (n : Snapshot) (rho : Nat),
    let m := compute n rho
    let rate := fun (record source : Nat) =>
      (max 0 (min (n.value record) 65535)).toNat * 10 * n.t2.getD source 0 / 3600
    let net := fun source : Nat => (rate (2 * source) source : Int) - (rate (2 * source + 1) source : Int)
    let setting := fun h : Nat => n.t3.getD h HolderSetting.zero
    let limit := fun h : Nat => ((setting h).correctionLimit : Int)
    let raw := fun h : Nat =>
      ((setting h).gain : Int) * (max 0 (min (n.value (6 + h)) 1000) - (n.targets.getD h 0 : Int))
    let correction := fun h : Nat => match n.bands.getD h .unknown with
      | .unknown => 0
      | .lowLow => 0
      | .low => -limit h
      | .normal => max (-limit h) (min (raw h) (limit h))
      | .high => max (-limit h) (min (raw h) (limit h))
      | .highHigh => limit h
    let available := fun (source : Nat) (c : Int) =>
      if n.isBound .gasSource source = true then (max 0 (net source + c)).toNat else 0
    m.corrections = [correction 0, correction 1] ∧
      m.available = [available 0 (correction 0), available 1 0, available 2 (correction 1)] ∧
      m.fuel = m.available.sum) ∧
  (∀ (n : Snapshot) (rho : Nat), (∀ e ∈ n.t4, e.inRange) →
    let m := compute n rho
    let setting := fun b : Nat => n.t4.getD b BoilerSetting.zero
    let grant := fun b : Nat => m.byProduct.getD b 0
    let eligible := fun b : Nat => b < 6 ∧ n.isBound .boiler b = true ∧ n.value (9 + b) = 1 ∧
      setting b ≠ BoilerSetting.zero
    m.byProduct.length = 6 ∧ m.byProduct.sum + m.excess = m.fuel ∧
      (∀ b, ¬ eligible b → grant b = 0) ∧
      (∀ b, eligible b → grant b = 0 ∨ ((setting b).fmin ≤ grant b ∧ grant b ≤ (setting b).fmax)) ∧
      (m.short = true ↔ ∃ b, eligible b ∧ grant b = 0) ∧
      (0 < m.excess → ∀ b, eligible b → grant b = 0 ∨ grant b = (setting b).fmax) ∧
      (∀ b c, eligible b → eligible c → (setting b).fillClass < (setting c).fillClass → 0 < grant b →
        grant b < (setting b).fmax → grant c ≤ (setting c).fmin) ∧
      ∀ b, eligible b →
        let before := (List.range 6).filter fun c => 0 < grant c ∧ ((setting c).fillClass < (setting b).fillClass ∨
          ((setting c).fillClass = (setting b).fillClass ∧ c < b))
        (0 < grant b ↔ (setting b).fmin + (before.map fun c => (setting c).fmin).sum ≤ m.fuel)) ∧
  (∀ (boilers : List FillBoiler) (f : Fill) (c : Nat),
    let own := boilers.filter fun b => b.cls = c
    let takes := fun (g : Fill) (b : FillBoiler) =>
      let grant := g.grants.getD b.number 0
      let given := min g.rest (b.fmax - grant)
      if 0 < grant ∧ grant < b.fmax then
        { g with rest := g.rest - given, grants := g.grants.set b.number (grant + given) }
      else g
    fillClass boilers f c = own.foldl takes (fillRounds own 6 f)) ∧
  ∀ (boilers : List FillBoiler) (f : Fill) (k : Nat), (boilers.map fun b => b.number).Nodup →
    (∀ b ∈ boilers, b.number < f.grants.length) →
    let grant := fun b : FillBoiler => f.grants.getD b.number 0
    let cs := boilers.filter fun b => 0 < grant b && grant b < b.fmax
    let share := fun b : FillBoiler => f.rest * b.weight / (cs.map fun c => c.weight).sum
    let given := fun b : FillBoiler => min (share b) (b.fmax - grant b)
    (cs = [] ∨ f.rest = 0 → fillRounds boilers k f = f) ∧
    (cs ≠ [] → 0 < f.rest → ∃ g : Fill, g.banked = f.banked ∧ g.rest = f.rest - (cs.map given).sum ∧
      (∀ b ∈ cs, g.grants.getD b.number 0 = grant b + given b) ∧
      (∀ i, (∀ b ∈ cs, b.number ≠ i) → g.grants.getD i 0 = f.grants.getD i 0) ∧
      ((∃ b ∈ cs, b.fmax - grant b < share b) → fillRounds boilers (k + 1) f = fillRounds boilers k g) ∧
      ((∀ b ∈ cs, share b ≤ b.fmax - grant b) → fillRounds boilers (k + 1) f = g))

/-- R81 to R85: the steam pool, the town demand and the turbine quantities of the snapshot, under ISLAND with no export
target and no tolerance; the split in each mode; and the pool equals heat, turbine steam and dump together. The other
mode gives the same split where the pool covers the town demand and the turbine need, and another where it falls short
of the two and none of the three is 0. -/
def Obligations.PoolSplit : Prop :=
  ∀ (n : Snapshot) (rho : Nat),
    let m := compute n rho
    let other := compute { n with mode := if n.mode = .heatFirst then .powerFirst else .heatFirst } rho
    let steam := fun rate : Int => ((max 0 rate).toNat * 100 + n.t8.efficiency - 1) / n.t8.efficiency
    m.pool = ((List.range 6).map fun b =>
        m.byProduct.getD b 0 * (n.t4.getD b BoilerSetting.zero).efficiency / 100).sum +
      ((List.range 2).map fun i => if n.isBound .recovery i = true then
        (max 0 (min (n.value (15 + i)) 1000000)).toNat else 0).sum ∧
    exchangerClaims n = ((List.range 4).map fun x =>
      let e := n.t6.getD x ExchangerSetting.zero
      if n.isBound .exchanger x = true ∧ n.value (20 + 2 * x) = 1 ∧ e ≠ ExchangerSetting.zero then
        min (n.requests.getD x 0) e.maxHeat else 0) ∧
    turbineClaims n = ((List.range 2).map fun i =>
      let e := n.t5.getD i TurbineSetting.zero
      if n.isBound .turbine i = true ∧ n.value (17 + i) = 1 ∧ e ≠ TurbineSetting.zero then e.maxSteam else 0) ∧
    m.demand = (exchangerClaims n).sum ∧ m.turbineCap = (turbineClaims n).sum ∧
    m.exportTarget = (if n.island = true then 0 else n.exportTarget) ∧
    m.tolerance = (if n.island = true then 0 else n.tolerance) ∧ m.siteLoad = n.value 28 ∧
    m.turbineNeed = min m.turbineCap (steam ((m.exportTarget : Int) + m.siteLoad)) ∧
    m.turbineHigh = min m.turbineCap (steam ((m.exportTarget : Int) + (m.tolerance : Int) + m.siteLoad)) ∧
    m.mode = n.mode ∧
    (m.mode = .heatFirst →
      m.heat = min m.pool m.demand ∧ m.turbine = min (m.pool - m.heat) m.turbineHigh ∧
      m.dump = m.pool - m.heat - m.turbine ∧ (0 < m.turbine → m.heat = m.demand)) ∧
    (m.mode = .powerFirst →
      let first := min m.pool m.turbineNeed
      m.heat = min (m.pool - first) m.demand ∧
      m.turbine = first + min (m.pool - first - m.heat) (m.turbineHigh - first) ∧
      m.dump = m.pool - m.heat - m.turbine) ∧
    m.heat ≤ m.demand ∧ m.turbine ≤ m.turbineHigh ∧ m.pool = m.heat + m.turbine + m.dump ∧
    (m.demand + m.turbineNeed ≤ m.pool →
      other.heat = m.heat ∧ other.turbine = m.turbine ∧ other.dump = m.dump) ∧
    (m.pool < m.demand + m.turbineNeed → 0 < m.pool → 0 < m.demand → 0 < m.turbineNeed → other.heat ≠ m.heat)

/-- R86 to R90, R92, R96: the top-up is bounded by the purchase limit and the shortfall and raises its boilers' steam,
town heat stays within the demand, each published boiler grant is 0 or lies between Fmin and Fmax, and with a shortfall
and purchase left every boiler with a by-product grant is at Fmax. The shares are proportional, rounded down, and their
residue is handed out in number order, each share up to its claim; the flare grant is what of the excess the flare may
burn; the origin per-mille is the recovered part of the town heat; and the flags tell what they tell of the period. -/
def Obligations.TopUpAndShares : Prop :=
  ∀ (n : Snapshot) (rho : Nat), (∀ e ∈ n.t4, e.inRange) →
    let m := compute n rho
    let setting := fun b : Nat => n.t4.getD b BoilerSetting.zero
    let byProduct := fun b : Nat => m.byProduct.getD b 0
    let published := fun b : Nat => byProduct b + m.topUp.getD b 0
    let shared := fun (amount whole : Nat) (claims shares : List Nat) =>
      shares.length = claims.length ∧ shares.sum = amount ∧ ∀ i < claims.length,
        let part := amount * claims.getD i 0 / whole
        part ≤ shares.getD i 0 ∧ shares.getD i 0 ≤ claims.getD i 0 ∧
          (part < shares.getD i 0 → ∀ j < i, shares.getD j 0 = claims.getD j 0)
    (m.topUp.length = 6 ∧ m.heat + m.topHeat ≤ m.demand ∧ m.shortfall = m.demand - m.heat - m.topHeat ∧
      m.topUp.sum ≤ n.t8.purchaseLimit ∧
      m.topHeat = ((List.range 6).map fun b => m.topUp.getD b 0 * (setting b).efficiency / 100).sum ∧
      ((n.mode = .powerFirst ∨ n.t8.topUp = false) → m.topHeat = 0 ∧ m.topUp.sum = 0) ∧
      (n.mode = .heatFirst → n.t8.topUp = true → 0 < m.shortfall → m.topUp.sum < n.t8.purchaseLimit →
        ∀ b < 6, 0 < byProduct b → published b = (setting b).fmax) ∧
      ∀ b < 6, published b = 0 ∨ ((setting b).fmin ≤ published b ∧ published b ≤ (setting b).fmax)) ∧
    shared (m.heat + m.topHeat) m.demand (exchangerClaims n) m.exchangerShares ∧
    shared m.turbine m.turbineCap (turbineClaims n) m.turbineShares ∧
    m.flareGrant = (if n.isBound .flare 0 = true ∧ n.t7 ≠ FlareSetting.zero ∧ (.high ∈ n.bands ∨ .highHigh ∈ n.bands)
      then min m.excess n.t7.flareMax else 0) ∧
    m.flareGrant + m.heldExcess = m.excess ∧
    m.rho = (if m.heat + m.topHeat = 0 then rho else 1000 * m.heat / (m.heat + m.topHeat)) ∧
    (rho ≤ 1000 → m.rho ≤ 1000) ∧ (m.topHeat = 0 → 0 < m.heat → m.rho = 1000) ∧
    (m.inputSubstituted = true ↔ ∃ r < 31,
      n.isBound (recordOwner r).1 (recordOwner r).2 = true ∧ (n.values.getD r (0, .absent)).2 = .substituted) ∧
    (m.heatShort = true ↔ 0 < m.shortfall) ∧ (m.exportShort = true ↔ m.turbine < m.turbineNeed) ∧
    m.period = n.period ∧ m.island = n.island ∧ m.state = some n.state

/-- R91, R99: every grant a completion hands over lies within the station maximum of the snapshot it was computed
from. -/
def Obligations.GrantsWithinMaximum : Prop :=
  ∀ (n : Snapshot) (rho : Nat), plantInRange n.t4 n.t5 n.t6 n.t7 →
    let grants := grantsOf (compute n rho)
    grants.length = 13 ∧
    (∀ b < 6, grants.getD b 0 ≤ (n.t4.getD b BoilerSetting.zero).fmax) ∧
    (∀ i < 2, grants.getD (6 + i) 0 ≤ (n.t5.getD i TurbineSetting.zero).maxSteam) ∧
    (∀ x < 4, grants.getD (8 + x) 0 ≤ (n.t6.getD x ExchangerSetting.zero).maxHeat) ∧
    grants.getD 12 0 ≤ n.t7.flareMax

/-- R60, R61, R98, R99, R111, R113, R139: START-ALLOCATION: refused when not STOPPED, and with the codes of every
condition that fails; taken, it runs the allocation, starts the period timer, initialises every limit from the last
request or the trip setpoint, and opens a PARTIAL block. The limit of a record on the line is held as its pending limit,
also when it equals the limit in force (log entry 26). -/
def Obligations.StartAllocation : Prop :=
  (∀ (s : State) (role : Role) (index : Nat),
    s.isBound role index = true ↔ ∃ b ∈ s.bindings, b.role = role ∧ b.index = index) ∧
  (∀ t : Tables,
    (∀ k < 6, let e := t.t4.getD k BoilerSetting.zero
      t.governing k = { mode := e.mode, ramp := e.ramp, trip := e.trip, maximum := e.fmax }) ∧
    (∀ k < 2, let e := t.t5.getD k TurbineSetting.zero
      t.governing (6 + k) = { mode := e.mode, ramp := e.ramp, trip := e.trip, maximum := e.maxSteam }) ∧
    (∀ k < 4, let e := t.t6.getD k ExchangerSetting.zero
      t.governing (8 + k) = { mode := e.mode, ramp := e.ramp, trip := e.trip, maximum := e.maxHeat }) ∧
    t.governing 12 = { mode := t.t7.mode, ramp := t.t7.ramp, trip := t.t7.trip, maximum := t.t7.flareMax }) ∧
  ∀ (s : State) (q : Request) (rest : List Request), Waiting s q rest 8 [] →
    s.classOf q.station = some .engineer →
    let codes : List Nat :=
      (if s.clock.state = .valid then [] else [1]) ++
      (if (List.range 3).any (s.isBound .gasSource) = true then [] else [2]) ++
      (if (List.range 6).any (s.isBound .boiler) = true then [] else [3]) ++
      (if s.isBound .grid 0 = true then [] else [4]) ++
      (if s.alloc.settingsLoaded = true then [] else [5]) ++ (if s.latch.causes = [] then [] else [6])
    (s.alloc.state ≠ .stopped → exec .startAllocation s = .next (answered q rest 8 6 [] s)) ∧
    (s.alloc.state = .stopped → codes ≠ [] →
      exec .startAllocation s = .next (answered q rest 8 7 (codes.map (BitVec.ofNat 8)) s)) ∧
    (s.alloc.state = .stopped → codes = [] →
      let block := s.clock.seconds / 1800
      ∃ t, exec .startAllocation s = .next (answered q rest 8 0 [] t) ∧
        t.alloc = { s.alloc with
          state := .running, period := some { length := s.tables.t8.period, start := s.now } } ∧
        t.tracker = { s.tracker with
          attributed := 0
          block := some { index := block, day := s.clock.day, entry := s.tables.t9.getD block none, delivered := 0
                          elapsed := s.clock.seconds - block * 1800
                          flags := { partialBlock := true, trip := false, island := s.latch.island
                                     clockStep := false, clockFree := false, inputDegraded := false }
                          handedTarget := 0, handedTolerance := 0 } } ∧
        t.governor.onLine = s.governor.onLine ∧ t.governor.grants.length = s.governor.grants.length ∧
        (∀ k < s.governor.grants.length,
          let g := s.tables.governing k
          let limit := match (s.grant k).lastRequest with
            | some r => (max 0 (min r.setpoint (g.maximum : Int))).toNat
            | none => g.trip
          t.grant k = if s.governor.onLine = some k then { s.grant k with pending := some limit }
            else { s.grant k with limit := limit }) ∧
        { t with alloc := s.alloc, tracker := s.tracker, governor := s.governor } = s)

/-- R61, R112, R139: STOP-ALLOCATION: taken in RUNNING alone, it stops the period timer, abandons the computation,
gives the part of the period that has run to the current block, closes it as PARTIAL, and leaves the grants. -/
def Obligations.StopAllocation : Prop :=
  ∀ (s : State) (q : Request) (rest : List Request), Waiting s q rest 9 [] →
    s.classOf q.station = some .engineer →
    (s.alloc.state ≠ .running → exec .stopAllocation s = .next (answered q rest 9 6 [] s)) ∧
    ∀ p b, s.alloc.state = .running → s.alloc.period = some p → s.tracker.block = some b →
      s.tracker.queue.length < 16 →
      let a := (s.now - p.start) / 1000 - s.tracker.attributed
      ∃ t r, exec .stopAllocation s = .next (answered q rest 9 0 [] t) ∧
        t.alloc = { s.alloc with state := .stopped, period := none, computing := none } ∧
        t.tracker.block = none ∧ t.tracker.queue = s.tracker.queue ++ [r] ∧
        r.number = s.tracker.nextNumber ∧ t.tracker.nextNumber = (s.tracker.nextNumber + 1) % 65536 ∧
        r.lostBefore = s.tracker.pendingLoss ∧ t.tracker.pendingLoss = 0 ∧
        r.index = b.index ∧ r.day = b.day ∧ r.flags.partialBlock = true ∧
        r.actualKwh = Int.tdiv (b.delivered + s.recordValue 27 * (a : Int)) 3600 ∧
        { t with alloc := s.alloc, tracker := s.tracker, mgmt := s.mgmt } = s ∧
        { t.mgmt with notices := s.mgmt.notices } = s.mgmt

/-! ## The trip latch -/

/-- R117, R124, R125: SET-MODE takes codes 0 and 1 in every allocation state, and refuses any other. RESUME is refused
with the codes of every condition that fails; taken, it empties the cause set, raises its notice event with the set value
emptied, and returns a TRIPPED allocation to RUNNING with no limit moved. -/
def Obligations.ModeAndResume : Prop :=
  (∀ (s : State) (q : Request) (rest : List Request) (code : Byte), Waiting s q rest 10 [code] →
      (s.classOf q.station = some .operator ∨ s.classOf q.station = some .engineer) →
      (code = 0 → exec .setMode s =
        .next (answered q rest 10 0 [] { s with latch := { s.latch with mode := .heatFirst } })) ∧
      (code = 1 → exec .setMode s =
        .next (answered q rest 10 0 [] { s with latch := { s.latch with mode := .powerFirst } })) ∧
      (code ≠ 0 → code ≠ 1 → exec .setMode s = .next (answered q rest 10 4 [] s))) ∧
  ∀ (s : State) (q : Request) (rest : List Request), Waiting s q rest 12 [] →
    s.classOf q.station = some .engineer →
    let quality := fun r => (s.record r).quality
    let codes : List Nat :=
      (if s.alloc.state = .tripped ∨ (s.alloc.state = .stopped ∧ s.latch.causes ≠ []) then [] else [1]) ++
      (if (s.holderState 0).band ≠ .lowLow ∧ (s.holderState 1).band ≠ .lowLow ∧ s.recordValue 30 = 0
        then [] else [2]) ++
      (if s.port.ringState = .closed then [] else [3]) ++
      (if ∃ r ∈ List.range 6, s.isBound .gasSource (r / 2) = true ∧ quality r ≠ .good ∧ quality r ≠ .clamped
        then [4] else [])
    let emptied : State := { s with latch := { s.latch with causes := [], firstCause := none } }
    let told := emptied.notice .resumed (((s.latch.causes.map fun c => c.cause.code).sum : Nat) : Int)
    (codes ≠ [] → exec .resume s = .next (answered q rest 12 7 (codes.map (BitVec.ofNat 8)) s)) ∧
    (codes = [] → exec .resume s = .next (answered q rest 12 0 []
      { told with alloc := { s.alloc with
          state := if s.alloc.state = .tripped then .running else s.alloc.state } }))

/-- R109, R113, R116, R119 to R121, R123: a cause that is raised: one in the set changes nothing; one that enters joins
with its stamp and its notice event, and trips a RUNNING allocation, with every limit at its trip setpoint and the
current block marked; the TRIP request raises MANUAL. The trip setpoint is held as the pending limit of the record on
the line, also when it equals the limit in force (log entry 26). -/
def Obligations.TripRequest : Prop :=
  (∀ (s : State) (c : Cause),
    let code := fun x : Cause => match x with | .lowLow0 => 1 | .lowLow1 => 2 | .safety => 4 | .manual => 8
    let inSet := ∃ e ∈ s.latch.causes, e.cause = c
    let stamp := if s.clock.state = .invalid then none
      else some { day := s.clock.day, seconds := s.clock.seconds : Stamp }
    let causes := s.latch.causes ++ [{ cause := c, entry := stamp }]
    let entered : State := { s with latch := { s.latch with
      causes := causes, firstCause := if s.latch.causes = [] then some c else s.latch.firstCause } }
    let told := entered.notice .trip (((causes.map fun e => code e.cause).sum + 16 * code c : Nat) : Int)
    let t := raiseCause c s
    (inSet → t = s) ∧
    (¬ inSet → s.alloc.state ≠ .running → t = told) ∧
    (¬ inSet → s.alloc.state = .running →
      t.alloc = { s.alloc with state := .tripped } ∧ t.latch = entered.latch ∧ t.mgmt = told.mgmt ∧
      t.governor.grants.length = s.governor.grants.length ∧ t.governor.onLine = s.governor.onLine ∧
      (∀ k < s.governor.grants.length,
        t.grant k = if s.governor.onLine = some k
          then { s.grant k with pending := some (s.tables.governing k).trip }
          else { s.grant k with limit := (s.tables.governing k).trip }) ∧
      t.tracker = { s.tracker with
        block := s.tracker.block.map fun b => { b with flags := { b.flags with trip := true } } } ∧
      { t with alloc := s.alloc, latch := s.latch, mgmt := s.mgmt, governor := s.governor
               tracker := s.tracker } = s)) ∧
  ∀ (s : State) (q : Request) (rest : List Request), Waiting s q rest 11 [] → s.classOf q.station = some .engineer →
    exec .trip s = .next (answered q rest 11 0 [] (raiseCause .manual s))

/-! ## Export -/

/-- R132, R134, R135: a boundary in the block and day of the clock gives the current block the seconds of the ended
period that no block has yet, at the rate of record 27, and one past them closes the block and shares the seconds out;
the export target it hands over brings the block home on its contract, within the correction limit. -/
def Obligations.ExportAccounted : Prop :=
  (∀ (s : State) (ended : Nat) (b : Block), s.tracker.block = some b →
      let e := s.recordValue 27
      let u := ended - s.tracker.attributed
      let clockBlock := s.clock.seconds / 1800
      let free := s.clock.state = .free
      let degraded := ∃ r, 27 ≤ r ∧ r ≤ 29 ∧ ((s.record r).quality = .held ∨ (s.record r).quality = .substituted ∨
        (s.record r).quality = .absent)
      (b.index = clockBlock → b.day = s.clock.day → 0 < u → b.elapsed + u ≤ 65535 →
        ∃ b', accountBoundary ended s = { s with tracker := { s.tracker with attributed := 0, block := some b' } } ∧
          b'.delivered = b.delivered + e * (u : Int) ∧ b'.elapsed = b.elapsed + u ∧
          b'.index = b.index ∧ b'.day = b.day ∧ b'.entry = b.entry ∧
          b'.flags.trip = b.flags.trip ∧ b'.flags.island = b.flags.island ∧
          b'.flags.partialBlock = b.flags.partialBlock ∧ b'.flags.clockStep = b.flags.clockStep ∧
          (b'.flags.clockFree = true ↔ b.flags.clockFree = true ∨ free) ∧
          (b'.flags.inputDegraded = true ↔ b.flags.inputDegraded = true ∨ degraded)) ∧
      (¬ (b.index = clockBlock ∧ b.day = s.clock.day) → s.tracker.queue.length < 16 → b.elapsed + u ≤ 65535 →
        let new := min (s.clock.seconds - clockBlock * 1800) u
        ∃ b' r, (accountBoundary ended s).tracker = { s.tracker with
            attributed := 0, block := some b', queue := s.tracker.queue ++ [r], pendingLoss := 0
            nextNumber := (s.tracker.nextNumber + 1) % 65536 } ∧
          b'.index = clockBlock ∧ b'.day = s.clock.day ∧ b'.entry = s.tables.t9.getD clockBlock none ∧
          b'.delivered = e * (new : Int) ∧ b'.elapsed = new ∧
          r.index = b.index ∧ r.day = b.day ∧ r.number = s.tracker.nextNumber ∧
          r.actualKwh = Int.tdiv (b.delivered + e * ((u - new : Nat) : Int)) 3600)) ∧
  ∀ (corr period : Nat) (b : Block), 0 < period →
    (b.entry = none → exportTarget corr period b = (0, 0)) ∧
    ∀ en, b.entry = some en →
      let x := (exportTarget corr period b).1
      let remaining : Nat := if 1800 - b.elapsed < period then period else 1800 - b.elapsed
      let wanted := Int.tdiv ((en.target : Int) * 1800 - b.delivered) (remaining : Int)
      (exportTarget corr period b).2 = en.tolerance ∧ x ≤ en.target + corr ∧ en.target - corr ≤ x ∧
      ((en.target : Int) - (corr : Int) ≤ wanted → wanted ≤ (en.target : Int) + (corr : Int) →
        (x : Int) = max 0 wanted) ∧
      (wanted < (en.target : Int) - (corr : Int) → (x : Int) = max 0 ((en.target : Int) - (corr : Int))) ∧
      ((en.target : Int) + (corr : Int) < wanted → x = en.target + corr) ∧
      (corr = 0 → x = en.target)

/-- R136, R137: the settlement record of a closed block, its class, and its place in the queue with what was lost
before it. -/
def Obligations.SettlementAppended : Prop :=
  ∀ (s : State) (b : Block), s.tracker.queue.length ≤ 16 →
    let t := appendSettlement b s
    let lost := if s.tracker.queue.length = 16 then min 255 (s.tracker.pendingLoss + 1) else s.tracker.pendingLoss
    ∃ r, t.tracker = { s.tracker with
        queue := (if s.tracker.queue.length = 16 then s.tracker.queue.drop 1 else s.tracker.queue) ++ [r]
        nextNumber := (s.tracker.nextNumber + 1) % 65536, pendingLoss := 0 } ∧
      r.number = s.tracker.nextNumber ∧ r.lostBefore = lost ∧ r.index = b.index ∧ r.day = b.day ∧
      r.flags = b.flags ∧ r.actualKwh = Int.tdiv b.delivered 3600 ∧
      r.deviation = r.actualKwh - (r.targetKwh : Int) ∧
      (b.entry = none → r.targetKwh = 0 ∧ r.toleranceKwh = 0 ∧ r.settleClass = .unscheduled) ∧
      (∀ e, b.entry = some e → r.targetKwh = e.target / 2 ∧ r.toleranceKwh = e.tolerance / 2 ∧
        (r.settleClass = .within ↔ -(r.toleranceKwh : Int) ≤ r.deviation ∧ r.deviation ≤ r.toleranceKwh) ∧
        (r.settleClass = .over ↔ (r.toleranceKwh : Int) < r.deviation) ∧
        (r.settleClass = .under ↔ r.deviation < -(r.toleranceKwh : Int))) ∧
      t.mgmt = (s.notice .settlementReady (t.tracker.queue.length : Int)).mgmt ∧
      { t with tracker := s.tracker, mgmt := s.mgmt } = s

/-- R136, R140, R141, R176: FETCH-SETTLEMENT shows the oldest record and changes nothing; RELEASE-SETTLEMENT removes the
record it names when that is the oldest, and shows the oldest otherwise; an empty queue answers EMPTY. The bytes of a
record are its fields in their order; the code of its class is a free value (log entry 7). -/
def Obligations.SettlementFetched : Prop :=
  (∀ r : Settlement, settlementFields r =
    field 2 r.number ++ field 1 r.index ++ field 2 r.day ++ field 4 r.targetKwh ++ field 2 r.toleranceKwh ++
      signedField 8 r.actualKwh ++ signedField 8 r.deviation ++ [Config.settleClassCode r.settleClass] ++
      [r.flags.partialBlock, r.flags.trip, r.flags.island, r.flags.clockStep, r.flags.clockFree,
        r.flags.inputDegraded].map (fun x => if x = true then 1 else 0) ++ field 1 r.lostBefore) ∧
  ∀ (s : State) (q : Request) (rest : List Request), s.classOf q.station = some .billing →
    (Waiting s q rest 18 [] →
      (s.tracker.queue = [] → exec .fetchSettlement s = .next (answered q rest 18 9 [] s)) ∧
      ∀ r more, s.tracker.queue = r :: more → exec .fetchSettlement s =
        .next (answered q rest 18 0 (settlementFields r ++ field 1 s.tracker.queue.length) s)) ∧
    ∀ hi lo : Byte, Waiting s q rest 19 [hi, lo] →
      (s.tracker.queue = [] → exec .releaseSettlement s = .next (answered q rest 19 9 [] s)) ∧
      ∀ r more, s.tracker.queue = r :: more →
        (r.number = hi.toNat * 256 + lo.toNat → exec .releaseSettlement s =
          .next (answered q rest 19 0 (field 1 more.length)
            { s with tracker := { s.tracker with queue := more } })) ∧
        (r.number ≠ hi.toNat * 256 + lo.toNat → exec .releaseSettlement s =
          .next (answered q rest 19 10 (settlementFields r ++ field 1 s.tracker.queue.length) s))

/-! ## Sweeps -/

/-- R145, R146, R154: START-SWEEP is refused when the engine is not IDLE and when the clock is not VALID; taken on a
range with an enabled account, it starts a sweep on the content of T13. STOP-SWEEP is refused in IDLE; with no entry
outstanding it makes the engine IDLE and leaves the visit cursor (log entry 23); with some it makes it STOPPING, with the
cursor past the end, at the last account covered plus one (log entry 23), and the waiting retries abandoned; in STOPPING
nothing changes. -/
def Obligations.SweepCommands : Prop :=
  (∀ (s : State) (q : Request) (rest : List Request), Waiting s q rest 13 [] →
      (s.classOf q.station = some .operator ∨ s.classOf q.station = some .engineer) →
      let t13 := s.tables.t13
      let last := if t13.mode = .single then t13.first else t13.last
      (s.sweep.state ≠ .idle → exec .startSweep s = .next (answered q rest 13 6 [] s)) ∧
      (s.sweep.state = .idle → s.clock.state ≠ .valid → exec .startSweep s = .next (answered q rest 13 7 [1] s)) ∧
      (s.sweep.state = .idle → s.clock.state = .valid →
        (∃ a < 96, t13.first ≤ a ∧ a ≤ last ∧ (s.accountSetting a).enabled = true) →
        exec .startSweep s = .next (answered q rest 13 0 [] { s with sweep := { s.sweep with
          state := .sweeping, number := (s.sweep.number + 1) % 65536
          copy := { mode := t13.mode, first := t13.first, last := t13.last, interval := t13.interval }
          cursor := t13.first
          startStamp := some { day := s.clock.day, seconds := s.clock.seconds }
          intervalDue := if t13.mode = .repeating then some (s.now + t13.interval * 1000) else none
          overrun := false, tallyRead := 0, tallyFault := 0, tallyMissed := 0 } })) ∧
      (s.sweep.state = .idle → s.clock.state = .valid →
        (∀ a < 96, t13.first ≤ a → a ≤ last → (s.accountSetting a).enabled = false) →
        exec .startSweep s = .next (answered q rest 13 0 [] (startSweepOn
          { mode := t13.mode, first := t13.first, last := t13.last, interval := t13.interval } s)))) ∧
  ∀ (s : State) (q : Request) (rest : List Request), Waiting s q rest 14 [] →
    (s.classOf q.station = some .operator ∨ s.classOf q.station = some .engineer) →
    let last := if s.sweep.copy.mode = .single then s.sweep.copy.first else s.sweep.copy.last
    let left := s.sweep.entries.filter fun e => !s.sweep.retries.contains e.account
    (s.sweep.state = .idle → exec .stopSweep s = .next (answered q rest 14 6 [] s)) ∧
    (s.sweep.state = .stopping → exec .stopSweep s = .next (answered q rest 14 0 [] s)) ∧
    (s.sweep.state = .waiting ∨ (s.sweep.state = .sweeping ∧ s.sweep.entries = []) →
      exec .stopSweep s = .next (answered q rest 14 0 [] { s with sweep := { s.sweep with
        state := .idle, intervalDue := none } })) ∧
    (s.sweep.state = .sweeping → s.sweep.entries ≠ [] →
      exec .stopSweep s = .next (answered q rest 14 0 [] { s with sweep := { s.sweep with
        state := if left = [] then .idle else .stopping
        intervalDue := none, cursor := last + 1, entries := left, retries := [] } }))

/-- R12, R147, R148, R151, R152: a slot of a quota is free below 8 replies, 4 polls, 2 notices and 1 probe. A visit passes over a disabled account, counts a MISSED outcome where the meter cannot be
polled, places a poll and makes its entry where it can, and waits where no entry can be issued; the oldest waiting
retry's poll is placed as soon as a poll slot is free, and waits until then. -/
def Obligations.PollsPlaced : Prop :=
  (∀ (s : State) (quota : Quota), s.freeSlot quota = true ↔ (s.port.insertion.filter fun f => f.quota = quota).length <
    match quota with | .reply => 8 | .poll => 4 | .notice => 2 | .probe => 1) ∧
  ∀ s : State, s.outOfReset = true →
    (s.sweep.state = .sweeping → s.sweep.pastEnd = false →
      let a := s.sweep.cursor
      let on := { s.sweep with cursor := a + 1 }
      let meter := bindingAt s.bindings .heatMeter (s.accountSetting a).meter
      let pollable := ∃ b, meter = some b ∧ b.ignore = false
      let room := s.sweep.entries.length < 4 ∧ s.freeSlot .poll = true ∧ s.sweep.retries = []
      ((s.accountSetting a).enabled = false →
        exec .accountVisit s = .next (checkSweepEnd { s with sweep := on })) ∧
      ((s.accountSetting a).enabled = true → ¬ pollable →
        exec .accountVisit s = .next (checkSweepEnd (billMissed a
          { s with sweep := { on with tallyMissed := s.sweep.tallyMissed + 1 } }))) ∧
      (∀ b, (s.accountSetting a).enabled = true → meter = some b → b.ignore = false →
        (room → exec .accountVisit s = .next { s with
          sweep := { on with
            entries := s.sweep.entries ++ [{ account := a, station := b.station, phase := .queued, attempt := 1 }]
            placement := s.sweep.placement ++ [some a] }
          port := { s.port with insertion := s.port.insertion ++
            [{ quota := .poll, destination := b.station, kind := 3, payload := [], echo := none
               endsPart := false }] } }) ∧
        (¬ room → exec .accountVisit s = .next s))) ∧
    ∀ (a : Nat) (more : List Nat) (e : PollEntry), s.sweep.retries = a :: more →
      s.sweep.entries.find? (fun x => x.account == a) = some e →
      (s.freeSlot .poll = true → exec .retryPlacement s = .next { s with
        sweep := { s.sweep with retries := more, placement := s.sweep.placement ++ [some a] }
        port := { s.port with insertion := s.port.insertion ++
          [{ quota := .poll, destination := e.station, kind := 3, payload := [], echo := none
             endsPart := false }] } }) ∧
      (s.freeSlot .poll = false → exec .retryPlacement s = .next s)

/-- R146, R151 to R154: a reply timer that expires makes a retry while attempts are left and the meter is bound as
before, ends the entry with a MISSED outcome otherwise, and in STOPPING abandons it; the interval timer's expiry starts
the next sweep from WAITING on the copy held, and in SWEEPING sets the overrun mark. -/
def Obligations.SweepTimersExpire : Prop :=
  ∀ s : State, s.outOfReset = true →
    (∀ (e : PollEntry) (seq : Byte) (departed : Nat),
      s.sweep.entries.find? (fun x => x.account == e.account) = some e → e.phase = .away seq departed →
      let late : State := { s with now := max s.now (departed + 250) }
      let again := e.attempt < 1 + s.tables.t13.retryLimit ∧
        ∃ b, bindingAt s.bindings .heatMeter (s.accountSetting e.account).meter = some b ∧ b.ignore = false ∧
          b.station = e.station
      let freed := { s.sweep with entries := s.sweep.entries.filter fun x => x.account != e.account }
      (s.sweep.state = .sweeping → again →
        exec (.replyTimerExpiry e.account) s = .next { late with sweep := { s.sweep with
          entries := s.sweep.entries.map fun x =>
            if x.account = e.account then { x with phase := .queued, attempt := x.attempt + 1 } else x
          retries := s.sweep.retries ++ [e.account] } }) ∧
      (s.sweep.state = .sweeping → ¬ again →
        exec (.replyTimerExpiry e.account) s = .next (checkSweepEnd (billMissed e.account
          { late with sweep := { freed with tallyMissed := s.sweep.tallyMissed + 1 } }))) ∧
      (s.sweep.state = .stopping →
        exec (.replyTimerExpiry e.account) s = .next { late with sweep := { freed with
          state := if freed.entries = [] then .idle else .stopping } })) ∧
    ∀ due, s.sweep.intervalDue = some due →
      let now := max s.now due
      let c := s.sweep.copy
      let last := if c.mode = .single then c.first else c.last
      (s.sweep.state = .sweeping → exec .intervalTimerExpiry s =
        .next { s with now := now, sweep := { s.sweep with overrun := true, intervalDue := none } }) ∧
      (s.sweep.state = .waiting → (∃ a < 96, c.first ≤ a ∧ a ≤ last ∧ (s.accountSetting a).enabled = true) →
        exec .intervalTimerExpiry s = .next { s with now := now, sweep := { s.sweep with
          state := .sweeping, number := (s.sweep.number + 1) % 65536, cursor := c.first
          startStamp := some { day := s.clock.day, seconds := s.clock.seconds }
          intervalDue := if c.mode = .repeating then some (now + c.interval * 1000) else none
          overrun := false, tallyRead := 0, tallyFault := 0, tallyMissed := 0 } }) ∧
      (s.sweep.state = .waiting → (∀ a < 96, c.first ≤ a → a ≤ last → (s.accountSetting a).enabled = false) →
        exec .intervalTimerExpiry s = .next (startSweepOn c { s with now := now }))

/-- R149, R150, R152, R166: a reply that matches no AWAY entry is LATE and changes nothing else; one that matches is READ
when the meter's status is 0 and its register is in range, and METER-FAULT otherwise; either frees the entry. A MISSED
outcome counts, and the eighth in succession makes the account SILENT; a METER-FAULT counts; a disabled account has
neither. -/
def Obligations.MeterReplyJudged : Prop :=
  (∀ (s : State) (station seq : Byte) (entries : List SampleEntry),
      ((∀ e ∈ s.sweep.entries, e.station = station → ∀ d, e.phase ≠ .away seq d) →
        meterReply station seq entries s = s.count .lateReply) ∧
      ((∃ e ∈ s.sweep.entries, e.station = station ∧ ∃ d, e.phase = .away seq d) →
        ∃ e, matchingEntry s station seq = some e) ∧
      ∀ e, matchingEntry s station seq = some e →
        let freed := { s.sweep with entries := s.sweep.entries.filter fun x => x.account != e.account }
        let last := fun channel : Nat => (entries.reverse.find? fun x =>
          (x.quality == 0 || x.quality == 1) && x.channel == channel).map fun x => x.value
        let status := last 2
        let register := last 1
        let sound := status = some 0 ∧ ∃ v, register = some v ∧ 0 ≤ v ∧ v ≤ 99999999
        e ∈ s.sweep.entries ∧ e.station = station ∧ (∃ d, e.phase = .away seq d) ∧
        (∀ v, sound → register = some v → meterReply station seq entries s = checkSweepEnd (takeReading
          { account := e.account, register := v.toNat
            stamp := { day := s.clock.day, seconds := s.clock.seconds }, dayType := s.clock.dayType, time := s.now }
          { s with sweep := { freed with tallyRead := s.sweep.tallyRead + 1 } })) ∧
        (¬ sound → meterReply station seq entries s = checkSweepEnd (billFault e.account
          { s with sweep := { freed with tallyFault := s.sweep.tallyFault + 1 } }))) ∧
  ∀ (s : State) (a : Nat), a < s.billing.accounts.length →
    let x := s.account a
    let counted := { x with period := { x.period with missed := min 65535 (x.period.missed + 1) } }
    (x.state = .disabled → billMissed a s = s ∧ billFault a s = s) ∧
    (x.state = .unread ∨ x.state = .active →
      (x.misses < 7 → billMissed a s = s.setAccount a fun _ => { counted with misses := x.misses + 1 }) ∧
      (7 ≤ x.misses → billMissed a s = (s.setAccount a fun _ =>
        { counted with state := .silent, misses := min 255 (x.misses + 1) }).notice .accountSilent (a : Int))) ∧
    (x.state = .silent → billMissed a s = s.setAccount a fun _ =>
      { counted with misses := min 255 (x.misses + 1) }) ∧
    (x.state ≠ .disabled → billFault a s = s.setAccount a fun _ =>
      { x with period := { x.period with fault := min 65535 (x.period.fault + 1) } })

/-- R143, R146, R153, R154: a sweep ends once its cursor is past the end and no entry is outstanding: with its notice
event, into WAITING or IDLE, or into the next sweep when the interval overran; a stopping engine becomes IDLE; and a
sweep on a range with no enabled account ends as it starts. -/
def Obligations.SweepEnds : Prop :=
  ∀ s : State,
    let w := s.sweep
    let last := if w.copy.mode = .single then w.copy.first else w.copy.last
    let after : SweepState := if w.copy.mode = .repeating then .waiting else .idle
    let done := s.notice .sweepDone (w.number : Int)
    let number := (w.number + 1) % 65536
    let told := done.notice .sweepOverrun (number : Int)
    (w.entries ≠ [] → checkSweepEnd s = s) ∧
    (w.entries = [] → w.state ≠ .stopping → ¬ (w.state = .sweeping ∧ last < w.cursor) → checkSweepEnd s = s) ∧
    (w.entries = [] → w.state = .stopping → checkSweepEnd s = { s with sweep := { w with state := .idle } }) ∧
    (w.entries = [] → w.state = .sweeping → last < w.cursor → ¬ (w.copy.mode = .repeating ∧ w.overrun = true) →
      checkSweepEnd s = { done with sweep := { w with state := after } }) ∧
    (w.entries = [] → w.state = .sweeping → last < w.cursor → w.copy.mode = .repeating → w.overrun = true →
      (∃ a < 96, w.copy.first ≤ a ∧ a ≤ last ∧ (s.accountSetting a).enabled = true) →
      checkSweepEnd s = { told with sweep := { w with
        number := number, cursor := w.copy.first, overrun := false, tallyRead := 0, tallyFault := 0, tallyMissed := 0
        startStamp := some { day := s.clock.day, seconds := s.clock.seconds }
        intervalDue := some (s.now + w.copy.interval * 1000) } }) ∧
    ∀ c : SweepCopy,
      let end_ := if c.mode = .single then c.first else c.last
      (∀ a < 96, c.first ≤ a → a ≤ end_ → (s.accountSetting a).enabled = false) →
      ∃ t, startSweepOn c s = t ∧ t.sweep.state = (if c.mode = .repeating then .waiting else .idle) ∧
        t.sweep.number = number ∧ t.sweep.entries = w.entries ∧ t.sweep.tallyMissed = 0 ∧
        t.mgmt = (s.notice .sweepDone (number : Int)).mgmt ∧ { t with sweep := s.sweep, mgmt := s.mgmt } = s

/-! ## Billing -/

/-- R161 to R165: a reading is taken as the baseline, accepted with its delta split by origin and filed under one
band, or rejected; the two parts of an accepted reading sum to its delta. -/
def Obligations.ReadingTaken : Prop :=
  ∀ (s : State) (r : Reading), s.billing.accounts.length = 96 → r.account < 96 →
    (s.accountSetting r.account).enabled = true →
    let a := s.account r.account
    let b := (takeReading r s).account r.account
    let taken : Baseline :=
      { register := r.register, time := r.time, recSnap := s.alloc.recCounter, topSnap := s.alloc.topCounter }
    let here : ReadingStamp := { register := r.register, stamp := r.stamp }
    let entered := b.period.first = some (a.period.first.getD here) ∧ b.period.last = some here
    let settled := b.state = .active ∧ b.baseline = some taken ∧ b.implausible = 0 ∧ b.misses = 0
    (a.baseline = none → settled ∧ entered ∧ b.energies = a.energies ∧ b.period.baseline = true) ∧
    (∀ base, a.baseline = some base → 3 ≤ a.implausible →
      settled ∧ entered ∧ b.energies = a.energies ∧ b.period.gap = true) ∧
    (∀ base, a.baseline = some base → a.implausible < 3 →
      let elapsed := (r.time - base.time) / 1000
      let limit := ((s.accountSetting r.account).rate * elapsed * 5 + 14399) / 14400
      let delta := if base.register ≤ r.register then r.register - base.register
        else r.register + 100000000 - base.register
      let dr := s.alloc.recCounter - base.recSnap
      let dt := s.alloc.topCounter - base.topSnap
      let f := if dr + dt = 0 then 1000 else 1000 * dr / (dr + dt)
      let band := s.tables.t10.getD (48 * r.dayType.code + r.stamp.seconds / 1800) 0
      (limit < delta → b = { a with
        implausible := a.implausible + 1
        period := { a.period with rejected := min 65535 (a.period.rejected + 1) } }) ∧
      (delta ≤ limit → a.energies.length = 8 → band < 4 → settled ∧ entered ∧ f ≤ 1000 ∧
        ∃ recovered purchased, recovered = delta * f / 1000 ∧ recovered + purchased = delta ∧
          b.energies.getD (2 * band) 0 = min 4294967295 (a.energies.getD (2 * band) 0 + recovered) ∧
          b.energies.getD (2 * band + 1) 0 = min 4294967295 (a.energies.getD (2 * band + 1) 0 + purchased) ∧
          ∀ i, i ≠ 2 * band → i ≠ 2 * band + 1 → b.energies.getD i 0 = a.energies.getD i 0)) ∧
    (∀ i, i ≠ r.account → (takeReading r s).account i = s.account i) ∧
    { takeReading r s with billing := s.billing } = s ∧
    { (takeReading r s).billing with accounts := s.billing.accounts } = s.billing

/-- R168, R169, R171: CLOSE-PERIOD: refused whole when the queue has no room for every enabled account; taken, it
appends one record for each of them in account order, each append that leaves 144 records or more handing its notice
event with their number, clears their accumulators and period data, and keeps their baselines. -/
def Obligations.ClosePeriod : Prop :=
  ∀ (s : State) (q : Request) (rest : List Request), Waiting s q rest 15 [] →
    s.classOf q.station = some .billing → s.tables.t12.length = 96 → s.billing.accounts.length = 96 →
    let n := s.tables.t12.countP fun e => e.enabled
    let number := (s.billing.closeCounter + 1) % 65536
    let held := s.billing.queue.length
    let told := ((List.range n).map fun i => held + i + 1).foldl
      (fun t count => if 144 ≤ count then State.notice t .billingQueueHigh (count : Int) else t) s
    (192 < s.billing.queue.length + n → exec .closePeriod s = .next (answered q rest 15 8 [] s)) ∧
    (s.billing.queue.length + n ≤ 192 → ∃ t records,
      exec .closePeriod s = .next (answered q rest 15 0 (be 2 number ++ be 1 n) t) ∧
      t.billing.queue = s.billing.queue ++ records ∧ records.length = n ∧
      t.billing.closeCounter = number ∧ t.billing.accounts.length = 96 ∧
      t.billing.periodStart = (if s.clock.state = .invalid then none
        else some { day := s.clock.day, seconds := s.clock.seconds }) ∧
      (records.map fun r => r.account) = (List.range 96).filter (fun a => (s.accountSetting a).enabled) ∧
      (∀ r ∈ records, r.closeNumber = number ∧ r.periodStart = s.billing.periodStart ∧
        r.periodEnd = t.billing.periodStart ∧
        r.state = (s.account r.account).state ∧ r.energies = (s.account r.account).energies ∧
        r.period = (s.account r.account).period ∧ r.charges.length = 8 ∧ r.total = r.charges.sum ∧
        ∀ i < 8, r.charges.getD i 0 = (r.energies.getD i 0 * s.tables.t11.getD i 0 + 500) / 1000) ∧
      (∀ a < 96, (s.accountSetting a).enabled = true → t.account a = { s.account a with
        energies := List.replicate 8 0
        period := { first := none, last := none, missed := 0, fault := 0, rejected := 0, gap := false
                    baseline := false } }) ∧
      (∀ a < 96, (s.accountSetting a).enabled = false → t.account a = s.account a) ∧
      t.mgmt = told.mgmt ∧ { t with billing := s.billing, mgmt := s.mgmt } = s)

/-- R169, R171, R176: FETCH-BILLING shows a part of the oldest billing record and changes nothing; RELEASE-BILLING
removes the record it names when that is the oldest, and shows part 0 of the oldest otherwise; an empty queue answers
EMPTY. The bytes of a part are its fields in their order; the code of the account state is a free value (log entry 7). -/
def Obligations.BillingFetched : Prop :=
  (∀ r : BillingRecord,
    let reading := presentField 10 fun x : ReadingStamp =>
      field 4 x.register ++ field 2 x.stamp.day ++ field 4 x.stamp.seconds
    let stamp := presentField 6 fun x : Stamp => field 2 x.day ++ field 4 x.seconds
    billingPart0 r = field 1 r.account ++ field 2 r.closeNumber ++ stamp r.periodStart ++ stamp r.periodEnd ++
      [Config.accountStateCode r.state] ++ r.energies.flatMap (field 4) ++ reading r.period.first ++
      reading r.period.last ++ field 2 r.period.missed ++ field 2 r.period.fault ++ field 2 r.period.rejected ++
      [if r.period.gap = true then 1 else 0, if r.period.baseline = true then 1 else 0] ∧
    billingPart1 r = field 1 r.account ++ field 2 r.closeNumber ++ r.charges.flatMap (field 8) ++ field 8 r.total) ∧
  ∀ (s : State) (q : Request) (rest : List Request), s.classOf q.station = some .billing →
    (∀ part : Byte, Waiting s q rest 16 [part] →
      (1 < part.toNat → exec .fetchBilling s = .next (answered q rest 16 2 [] s)) ∧
      (part.toNat ≤ 1 → s.billing.queue = [] → exec .fetchBilling s = .next (answered q rest 16 9 [] s)) ∧
      ∀ r more, part.toNat ≤ 1 → s.billing.queue = r :: more → exec .fetchBilling s =
        .next (answered q rest 16 0 ([part] ++ (if part = 0 then billingPart0 r else billingPart1 r) ++
          field 1 s.billing.queue.length) s)) ∧
    ∀ hi lo account : Byte, Waiting s q rest 17 [hi, lo, account] →
      let named := fun r : BillingRecord => r.closeNumber = hi.toNat * 256 + lo.toNat ∧ r.account = account.toNat
      (s.billing.queue = [] → exec .releaseBilling s = .next (answered q rest 17 9 [] s)) ∧
      ∀ r more, s.billing.queue = r :: more →
        (named r → exec .releaseBilling s = .next (answered q rest 17 0 (field 1 more.length)
          { s with billing := { s.billing with queue := more } })) ∧
        (¬ named r → exec .releaseBilling s = .next (answered q rest 17 10
          ([0] ++ billingPart0 r ++ field 1 s.billing.queue.length) s))

/-! ## Requests -/

/-- R28, R173, R174, R175: the class of a requester: with no management entry bound, ENGINEER for every source;
otherwise the class of an admitted management entry, and none for an ignored one, for another role and for an unbound
station. An unknown request code is answered BAD-REQUEST whoever asks, and a listed one that the requester's class may
not make REFUSED-CLASS; a request with no free reply slot, or behind a RESET, waits. -/
def Obligations.RequestsRefused : Prop :=
  (∀ (s : State) (station : Byte),
    let management := fun b : Binding => b.role = .mgmtOperator ∨ b.role = .mgmtEngineer ∨ b.role = .mgmtBilling
    ((∀ b ∈ s.bindings, ¬ management b) → s.classOf station = some .engineer) ∧
    ((∃ b ∈ s.bindings, management b) →
      ((∀ b ∈ s.bindings, b.station ≠ station) → s.classOf station = none) ∧
      ∀ b ∈ s.bindings, b.station = station → (∀ c ∈ s.bindings, c.station = station → c = b) →
        (b.ignore = true ∨ ¬ management b → s.classOf station = none) ∧
        (b.ignore = false → b.role = .mgmtOperator → s.classOf station = some .operator) ∧
        (b.ignore = false → b.role = .mgmtEngineer → s.classOf station = some .engineer) ∧
        (b.ignore = false → b.role = .mgmtBilling → s.classOf station = some .billing))) ∧
  ∀ (s : State) (q : Request) (rest : List Request), s.outOfReset = true → s.mgmt.queue = q :: rest →
    let row := commandOf q.payload
    (s.freeSlot .reply = false ∨ s.mgmt.resetStage ≠ .none → exec row s = .next s) ∧
    ∀ (code : Byte) (operands : List Byte), q.payload = code :: operands → s.freeSlot .reply = true →
      s.mgmt.resetStage = .none →
      let n : Nat := code.toNat
      let table : Option Nat := operands.head?.map fun b => b.toNat
      let classes : List MgmtClass :=
        if n ≤ 2 ∨ (n = 5 ∧ table = some 0) then [.operator, .engineer, .billing]
        else if n = 10 ∨ n = 13 ∨ n = 14 then [.operator, .engineer]
        else if 15 ≤ n ∨ ((n = 3 ∨ n = 4) ∧ (table = some 10 ∨ table = some 11)) then [.billing]
        else [.engineer]
      (n = 0 ∨ 19 < n → exec .badRequestCode s = .next (answered q rest n 2 [] s)) ∧
      (1 ≤ n → n ≤ 19 → (∀ c ∈ classes, s.classOf q.station ≠ some c) →
        exec row s = .next (answered q rest n 1 [] s))

/-- R175, R179, R180: a request a class may make whose operands have a wrong length or form is answered BAD-REQUEST,
and a WRITE or EXCHANGE that names no table T0 to T14 OUT-OF-RANGE. The three bytes a READ has, and those before the
entries of a WRITE or EXCHANGE, are the index widths of log entry 8. -/
def Obligations.MalformedRefused : Prop :=
  ∀ (s : State) (q : Request) (rest : List Request) (n : Nat) (operands : List Byte) (c : MgmtClass),
    Waiting s q rest n operands → s.classOf q.station = some c →
    let len := operands.length
    let first := (operands.getD 0 0).toNat
    let sizes := [4, 14, 2, 23, 20, 13, 19, 13, 11, 7, 1, 4, 4, 8, 3]
    let size := sizes.getD first 0
    let billing := 0 < len ∧ (first = 10 ∨ first = 11)
    let engineer := c = .engineer
    let badCount := fun v : Byte => v.toNat = 0 ∨ 8 < v.toNat
    let malformed : Prop :=
      (n = 1 ∧ (len ≠ 3 ∨ badCount (operands.getD 2 0))) ∨
      (n = 2 ∧ (len ≠ 1 ∨ badCount (operands.getD 0 0))) ∨
      (n = 3 ∧ (if billing then c = .billing else engineer) ∧
        (len < 3 ∨ (first ≤ 14 ∧ (len < 3 + size ∨ (len - 3) % size ≠ 0)))) ∨
      (n = 4 ∧ (if billing then c = .billing else engineer) ∧
        (len < 3 ∨ (first ≤ 14 ∧ len ≠ 3 + 2 * size))) ∨
      (n = 5 ∧ (engineer ∨ operands.head? = some 0) ∧ operands ≠ [0] ∧ operands ≠ [1]) ∨
      (n = 6 ∧ engineer ∧ operands ≠ [1] ∧ operands ≠ [2] ∧ operands ≠ [3]) ∨
      ((n = 7 ∨ n = 8 ∨ n = 9 ∨ n = 11 ∨ n = 12) ∧ engineer ∧ len ≠ 0) ∨
      (n = 10 ∧ (engineer ∨ c = .operator) ∧ len ≠ 1) ∨
      ((n = 13 ∨ n = 14) ∧ (engineer ∨ c = .operator) ∧ len ≠ 0) ∨
      ((n = 15 ∨ n = 18) ∧ c = .billing ∧ len ≠ 0) ∨
      (n = 16 ∧ c = .billing ∧ (len ≠ 1 ∨ 1 < first)) ∨
      (n = 17 ∧ c = .billing ∧ len ≠ 3) ∨ (n = 19 ∧ c = .billing ∧ len ≠ 2)
    (malformed → exec (commandOf q.payload) s = .next (answered q rest n 2 [] s)) ∧
    (n = 3 ∨ n = 4 → engineer → 3 ≤ len → 14 < first →
      exec (commandOf q.payload) s = .next (answered q rest n 3 [] s))

/-- R176 to R178: READ and READ-ON return as many whole entries as the count, the table's end and the reply allow, and
move the requester's cursor behind them, in a slot of its own, held in the order of setting (log entry 22); a READ past
the end is answered OUT-OF-RANGE; the one-byte index of a READ is log entry 8. The bytes of every table entry and of
every readable record are their fields in their order: forms that rest on an inference are log entry 9, the codes of
states are free values (log entry 7), and so are a value too large for its field (log entry 10) and the internal times
and a part of a second in the window record (log entry 11). -/
def Obligations.Reads : Prop :=
  (∀ (n v : Nat), v < 256 ^ n → (field n v).length = n ∧ unbe (field n v) = v) ∧
  (∀ v : Int, (-2147483648 ≤ v → v ≤ 2147483647 → toSigned 4 (unbe (signedField 4 v)) = v) ∧
    (-9223372036854775808 ≤ v → v ≤ 9223372036854775807 → toSigned 8 (unbe (signedField 8 v)) = v)) ∧
  (∀ (zeros : Nat) (write : Nat → List Byte), presentField zeros write none = List.replicate zeros 0 ++ [0] ∧
    ∀ a, presentField zeros write (some a) = write a ++ [1]) ∧
  (∀ s : State,
    let flag := fun x : Bool => [if x = true then (1 : Byte) else 0]
    let mode := fun x : GovMode => field 1 (match x with | .pass => 0 | .clamp => 1 | .replace => 2)
    let stamp := presentField 6 fun x : Stamp => field 2 x.day ++ field 4 x.seconds
    let schedule := fun x : Option ExportEntry => match x with
      | none => [0, 0, 0, 0, 0, 0, 0]
      | some e => [1] ++ field 4 e.target ++ field 2 e.tolerance
    let settings := fun x : AccountSetting => flag x.enabled ++ field 1 x.meter ++ field 2 x.rate
    let age := fun t : Nat => field 4 ((s.now - t) / 1000)
    let kw := fun v : Nat => signedField 4 (v : Int)
    let tables := s.tables
    tableEntries s 0 = some (tables.t0.map fun x => match x with
      | none => [0, 0, 0, 0]
      | some b => [b.station] ++ field 1 b.role.code ++ field 1 b.index ++ flag b.ignore) ∧
    tableEntries s 1 = some (tables.t1.map fun e =>
      signedField 4 e.low ++ signedField 4 e.high ++ field 2 e.staleness ++ signedField 4 e.substitute) ∧
    tableEntries s 2 = some (tables.t2.map (field 2)) ∧
    tableEntries s 3 = some (tables.t3.map fun e =>
      field 2 e.lowLow ++ field 2 e.low ++ field 2 e.high ++ field 2 e.highHigh ++ field 1 e.hysteresis ++
        field 2 e.target ++ field 2 e.gain ++ field 4 e.correctionLimit ++ field 2 e.blowOffset ++ field 2 e.postBlow ++
        field 2 e.maxBlow) ∧
    tableEntries s 4 = some (tables.t4.map fun e =>
      field 1 e.fillClass ++ field 4 e.fmin ++ field 4 e.fmax ++ field 1 e.weight ++ field 1 e.efficiency ++
        mode e.mode ++ field 4 e.ramp ++ field 4 e.trip) ∧
    tableEntries s 5 = some (tables.t5.map fun e => field 4 e.maxSteam ++ mode e.mode ++ field 4 e.ramp ++ field 4 e.trip) ∧
    tableEntries s 6 = some (tables.t6.map fun e =>
      field 4 e.maxHeat ++ field 4 e.defaultRequest ++ field 2 e.staleness ++ mode e.mode ++ field 4 e.ramp ++
        field 4 e.trip) ∧
    tableEntries s 7 = some [field 4 tables.t7.flareMax ++ mode tables.t7.mode ++ field 4 tables.t7.ramp ++
      field 4 tables.t7.trip] ∧
    tableEntries s 8 = some [field 1 tables.t8.period ++ field 1 tables.t8.efficiency ++ field 4 tables.t8.correction ++
      flag tables.t8.topUp ++ field 4 tables.t8.purchaseLimit] ∧
    tableEntries s 9 = some (tables.t9.map schedule) ∧
    tableEntries s 10 = some (tables.t10.map (field 1)) ∧ tableEntries s 11 = some (tables.t11.map (field 4)) ∧
    tableEntries s 12 = some (tables.t12.map settings) ∧
    tableEntries s 13 = some [field 1 (match tables.t13.mode with | .single => 0 | .oneShot => 1 | .repeating => 2) ++
      field 1 tables.t13.first ++ field 1 tables.t13.last ++ field 4 tables.t13.interval ++
      field 1 tables.t13.retryLimit] ∧
    tableEntries s 14 = some [[tables.t14.destination] ++ be 2 tables.t14.enabled.toNat] ∧
    tableEntries s 15 = none ∧ (∀ k, 24 ≤ k → tableEntries s k = none) ∧
    (let cause := fun c : Cause => stamp ((s.latch.causes.find? fun e => e.cause == c).bind fun e => e.entry)
     let plant : Nat := match s.latch.mode with | .heatFirst => 0 | .powerFirst => 1
     tableEntries s 16 = some [[s.pins.station, Config.ringStateCode s.port.ringState,
        Config.allocStateCode s.alloc.state] ++
      field 1 (match s.alloc.period with | some p => p.length | none => 0) ++
      field 1 (match s.alloc.period with | some p => (s.now - p.start) / 1000 | none => 0) ++
      flag s.alloc.computing.isSome ++ flag s.alloc.settingsLoaded ++ [Config.clockStateCode s.clock.state] ++
      field 4 s.clock.seconds ++ field 2 s.clock.day ++
      field 1 (match s.clock.dayType with | .workday => 0 | .weekend => 1 | .holiday => 2) ++ field 1 plant ++
      flag s.latch.island ++ field 1 (s.latch.causes.map fun c => c.cause.code).sum ++
      presentField 1 (fun c : Cause => field 1 c.code) s.latch.firstCause ++ cause .lowLow0 ++ cause .lowLow1 ++
      cause .safety ++ cause .manual ++ [Config.sweepStateCode s.sweep.state] ++ field 2 s.sweep.number ++
      stamp s.sweep.startStamp ++ field 1 s.sweep.entries.length ++ field 1 s.sweep.cursor ++
      field 1 s.sweep.tallyRead ++ field 1 s.sweep.tallyFault ++ field 1 s.sweep.tallyMissed]) ∧
    (let m := s.alloc.summary
     let plant : Nat := match m.mode with | .heatFirst => 0 | .powerFirst => 1
     let pair := fun b : Nat => kw (m.byProduct.getD b 0) ++ kw (m.topUp.getD b 0)
     tableEntries s 17 = some [
      kw m.period ++ field 1 plant ++ flag m.island ++
        [match m.state with | some x => Config.allocStateCode x | none => 0],
      flag m.inputSubstituted ++ flag m.short ++ flag m.heatShort ++ flag m.exportShort,
      m.available.flatMap kw ++ m.corrections.flatMap (signedField 4) ++ kw m.fuel,
      pair 0 ++ pair 1 ++ pair 2 ++ pair 3 ++ pair 4 ++ pair 5,
      kw m.excess ++ kw m.flareGrant ++ kw m.heldExcess,
      kw m.pool ++ kw m.demand ++ kw m.exportTarget ++ kw m.tolerance ++ signedField 4 m.siteLoad ++ kw m.turbineCap ++
        kw m.turbineNeed ++ kw m.turbineHigh,
      kw m.heat ++ kw m.turbine ++ kw m.dump ++ kw m.topHeat ++ kw m.shortfall,
      m.exchangerShares.flatMap kw ++ m.turbineShares.flatMap kw,
      kw m.rho,
      kw s.alloc.rho ++ field 8 s.alloc.recCounter ++ field 8 s.alloc.topCounter]) ∧
    tableEntries s 18 = some ((List.range 31).map fun r =>
      let x := s.record r
      (if x.quality = .absent then
          signedField 4 (s.inputSetting r).substitute ++ [Config.qualityCode .substituted]
        else signedField 4 x.value ++ [Config.qualityCode x.quality]) ++
      presentField 4 age x.arrival ++ presentField 1 (fun c : Int => field 1 c.toNat) x.candidate ++ flag x.agreed) ∧
    tableEntries s 19 = some ((List.range 13).map fun k =>
      let x := s.grant k
      let g := tables.governing k
      mode g.mode ++ field 4 x.grant ++ field 4 x.limit ++ presentField 4 (field 4) x.pending ++ field 4 g.ramp ++
        field 4 g.trip ++ presentField 4 (fun q : LastRequest => signedField 4 q.setpoint) x.lastRequest ++
        presentField 4 (fun q : LastRequest => age q.time) x.lastRequest ++
        presentField 4 (signedField 4) x.lastPassed) ∧
    (let w := s.holder.window
     let holder := fun h : Nat =>
       field 1 (s.holderState h).band.code ++
         presentField 2 (fun v : Int => if 0 ≤ v then field 2 v.toNat else be 2 (Config.unfitValue 2 v))
           (s.holderState h).level ++ field 2 (effectiveTarget s h)
     let left := match w.limitTimer, w.tailDue with
       | some t, _ => t.due - s.now
       | none, some due => due - s.now
       | none, none => 0
     let moment := fun t : Nat => field 4 (Config.internalTimeCode t)
     tableEntries s 20 = some [holder 0 ++ holder 1 ++ [Config.windowStateCode w.state] ++ flag w.stuck ++
      presentField 4 (fun b : BlowStart => moment b.time) w.start ++ stamp (w.start.bind fun b => b.clock) ++
      presentField 4 moment w.previousStart ++ presentField 4 (field 4) w.lastInterval ++
      field 2 (left / 1000 + if left % 1000 ≠ 0 ∧ Config.remainingRoundsUp left = true then 1 else 0)]) ∧
    tableEntries s 21 = some (s.holder.log.map fun e =>
      stamp e.start ++ field 2 e.duration ++ presentField 4 (field 4) e.interval ++ [Config.blowEndCode e.ending]) ∧
    tableEntries s 22 = some [presentField 32 (fun b : Block =>
      field 1 b.index ++ field 2 b.day ++ schedule b.entry ++ signedField 8 b.delivered ++ field 2 b.elapsed ++
        flag b.flags.partialBlock ++ flag b.flags.trip ++ flag b.flags.island ++ flag b.flags.clockStep ++
        flag b.flags.clockFree ++ flag b.flags.inputDegraded ++ field 4 b.handedTarget ++ field 2 b.handedTolerance)
      s.tracker.block] ∧
    tableEntries s 23 = some ((List.range 96).map fun a =>
      let x := s.account a
      let reading := presentField 10 fun r : ReadingStamp =>
        field 4 r.register ++ field 2 r.stamp.day ++ field 4 r.stamp.seconds
      [Config.accountStateCode x.state] ++ settings (s.accountSetting a) ++
        presentField 24 (fun b : Baseline =>
          field 4 b.register ++ age b.time ++ field 8 b.recSnap ++ field 8 b.topSnap) x.baseline ++
        field 1 x.implausible ++ field 1 x.misses ++ x.energies.flatMap (field 4) ++ reading x.period.first ++
        reading x.period.last ++ field 2 x.period.missed ++ field 2 x.period.fault ++ field 2 x.period.rejected ++
        flag x.period.gap ++ flag x.period.baseline)) ∧
  ∀ (s : State) (q : Request) (rest : List Request) (c : MgmtClass) (count : Byte),
    s.classOf q.station = some c → 1 ≤ count.toNat → count.toNat ≤ 8 →
    let returns := fun (command : Instr) (code table index : Nat) (es : List (List Byte)) =>
      ∃ n, n ≤ min count.toNat (es.length - index) ∧
        let taken := (es.drop index).take n
        let others := s.mgmt.cursors.filter fun x => x.station != q.station
        taken.flatten.length ≤ 114 ∧
        (n < min count.toNat (es.length - index) → 114 < ((es.drop index).take (n + 1)).flatten.length) ∧
        exec command s = .next (answered q rest code 0
          (be 1 table ++ be 1 index ++ be 1 n ++ [if es.length ≤ index + n then 1 else 0] ++ taken.flatten)
          { s with mgmt := { s.mgmt with cursors := (if 4 ≤ others.length then others.drop 1 else others) ++
            [{ station := q.station, table := table, index := index + n }] } })
    (∀ table index : Byte, Waiting s q rest 1 [table, index, count] →
      (tableEntries s table.toNat = none → exec .read s = .next (answered q rest 1 3 [] s)) ∧
      ∀ es, tableEntries s table.toNat = some es →
        (es.length ≤ index.toNat → exec .read s = .next (answered q rest 1 3 [] s)) ∧
        (index.toNat < es.length → returns .read 1 table.toNat index.toNat es)) ∧
    (Waiting s q rest 2 [count] → ∀ x es,
      x = (s.mgmt.cursors.find? fun y => y.station == q.station).getD
        { station := q.station, table := 0, index := 0 } →
      x.table < 256 → x.index < 256 → tableEntries s x.table = some es → returns .readOn 2 x.table x.index es)

/-- R31, R46, R66, R128, R160, R179: a WRITE to T1, T2, T3, T9, T10 or T11. The two bytes of its index (writeOperands)
are log entry 8. -/
def Obligations.PlainTablesWritten : Prop :=
  writeRule .writeT1 1 .engineer [4, 4, 2, 4]
    (fun _ i fs e => fs = [unsigned32 e.low, unsigned32 e.high, e.staleness, unsigned32 e.substitute] ∧
      signedFits e.low ∧ signedFits e.high ∧ signedFits e.substitute ∧ e.inRange i)
    (fun s i new => { s with tables := { s.tables with t1 := written s.tables.t1 i new } }) ∧
  writeRule .writeT2 2 .engineer [2] (fun _ _ fs e => fs = [e] ∧ e ≤ 40000)
    (fun s i new => { s with tables := { s.tables with t2 := written s.tables.t2 i new } }) ∧
  writeRule .writeT3 3 .engineer [2, 2, 2, 2, 1, 2, 2, 4, 2, 2, 2]
    (fun _ i fs e => fs = [e.lowLow, e.low, e.high, e.highHigh, e.hysteresis, e.target, e.gain,
      e.correctionLimit, e.blowOffset, e.postBlow, e.maxBlow] ∧ e.inRange i)
    (fun s i new => { s with tables := { s.tables with t3 := written s.tables.t3 i new } }) ∧
  writeRule .writeT9 9 .engineer [1, 4, 2]
    (fun _ _ fs x => match x with
      | none => fs.getD 0 1 = 0
      | some e => fs = [1, e.target, e.tolerance] ∧ e.target ≤ 400000 ∧ e.tolerance ≤ 50000)
    (fun s i new => { s with tables := { s.tables with t9 := written s.tables.t9 i new } }) ∧
  writeRule .writeT10 10 .billing [1] (fun _ _ fs band => fs = [band] ∧ band ≤ 3)
    (fun s i new => { s with tables := { s.tables with t10 := written s.tables.t10 i new } }) ∧
  writeRule .writeT11 11 .billing [4] (fun _ _ fs price => fs = [price] ∧ price ≤ 10000000)
    (fun s i new => { s with tables := { s.tables with t11 := written s.tables.t11 i new } })

/-- R59, R67, R78 to R80, R100, R144, R179, R183: a WRITE to a table of governed stations, to T8, T13 or T14; T8 sets
the settings-loaded mark, and T14 removes the kinds it no longer takes from the pending set. The two bytes of its index
(writeOperands) are log entry 8. -/
def Obligations.PlantTablesWritten : Prop :=
  writeRule .writeT4 4 .engineer [1, 4, 4, 1, 1, 1, 4, 4]
    (fun _ _ fs e => fs = [e.fillClass, e.fmin, e.fmax, e.weight, e.efficiency, e.mode.code, e.ramp, e.trip] ∧
      e.inRange)
    (fun s i new => { s with tables := { s.tables with t4 := written s.tables.t4 i new } }) ∧
  writeRule .writeT5 5 .engineer [4, 1, 4, 4]
    (fun _ _ fs e => fs = [e.maxSteam, e.mode.code, e.ramp, e.trip] ∧ e.inRange)
    (fun s i new => { s with tables := { s.tables with t5 := written s.tables.t5 i new } }) ∧
  writeRule .writeT6 6 .engineer [4, 4, 2, 1, 4, 4]
    (fun _ _ fs e => fs = [e.maxHeat, e.defaultRequest, e.staleness, e.mode.code, e.ramp, e.trip] ∧ e.inRange)
    (fun s i new => { s with tables := { s.tables with t6 := written s.tables.t6 i new } }) ∧
  writeRule .writeT7 7 .engineer [4, 1, 4, 4]
    (fun _ _ fs e => fs = [e.flareMax, e.mode.code, e.ramp, e.trip] ∧ e.inRange)
    (fun s _ new => { s with tables := { s.tables with t7 := new.headD s.tables.t7 } }) ∧
  writeRule .writeT8 8 .engineer [1, 1, 4, 1, 4]
    (fun _ _ fs e => fs = [e.period, e.efficiency, e.correction, if e.topUp then 1 else 0, e.purchaseLimit] ∧
      e.inRange)
    (fun s _ new => { s with
      tables := { s.tables with t8 := new.headD s.tables.t8 }
      alloc := { s.alloc with settingsLoaded := true } }) ∧
  writeRule .writeT13 13 .engineer [1, 1, 1, 4, 1]
    (fun _ _ fs e => fs = [e.mode.code, e.first, e.last, e.interval, e.retryLimit] ∧ e.inRange)
    (fun s _ new => { s with tables := { s.tables with t13 := new.headD s.tables.t13 } }) ∧
  writeRule .writeT14 14 .engineer [1, 2]
    (fun s _ fs e => fs = [e.destination.toNat, e.enabled.toNat] ∧ e.inRange s)
    (fun s _ new =>
      let e := new.headD s.tables.t14
      let kept := s.mgmt.notices.filter fun p => e.destination != 0 && e.enabled.getLsbD p.1.code
      { s with tables := { s.tables with t14 := e }, mgmt := { s.mgmt with notices := kept } })

/-- R22 to R26, R155, R167, R179: a WRITE to T0: its checks in their order, and what a taken one tells the other blocks:
the candidates of a rebound status input are discarded, and a rebound meter index cancels its polls and unsettles its
accounts. The two bytes of its index (writeOperands) are log entry 8; that the guard refuses a new station of the last
admitted engineer entry while other management entries remain is log entry 32. -/
def Obligations.StationsWritten : Prop :=
  ∀ (s : State) (q : Request) (rest : List Request) (index : Nat) (fs : List (List Nat)),
    fs ≠ [] → (∀ f ∈ fs, fieldsFit [1, 1, 1, 1] f) → index < 65536 →
    Waiting s q rest 3 (writeOperands 0 index (fs.map (fieldBytes [1, 1, 1, 1]))) →
    s.classOf q.station = some .engineer →
    let answers := fun (status : Nat) (t : State) => exec .writeT0 s = .next (answered q rest 3 status [] t)
    (128 < index + fs.length → answers 3 s) ∧
    (index + fs.length ≤ 128 → (∃ f ∈ fs, ∀ b, ¬ carriesBinding s f b) → answers 4 s) ∧
    ∀ new : List (Option Binding), index + fs.length ≤ 128 → new.length = fs.length →
      (∀ (i : Nat) (f : List Nat) (b : Option Binding), fs[i]? = some f → new[i]? = some b → carriesBinding s f b) →
      let after := written s.tables.t0 index new
      let bs := after.filterMap id
      let many := 4 < (bs.filter fun b => b.role.mgmtClass.isSome).length
      let guarded := ¬ engineerLeft bs ∨ lastEngineerMove s.tables.t0 after
      let moved := s.alloc.state ≠ .stopped ∧ ∃ (i : Nat) (o n : Option Binding), s.tables.t0[i]? = some o ∧ after[i]? = some n ∧
        governedRebound o n
      let rebound := fun (role : Role) (i : Nat) => stationAt s.tables.t0 role i != stationAt after role i
      let meterRebound := fun a =>
        (s.accountSetting a).meter < 96 && rebound .heatMeter (s.accountSetting a).meter
      (many → answers 4 s) ∧
      (¬ many → ¬ bindingsDistinct bs → answers 5 s) ∧
      (¬ many → bindingsDistinct bs → guarded → answers 6 s) ∧
      (¬ many → bindingsDistinct bs → ¬ guarded → moved → answers 6 s) ∧
      (¬ many → bindingsDistinct bs → ¬ guarded → ¬ moved → ∃ t, answers 0 t ∧
        t.tables = { s.tables with t0 := after } ∧
        (∀ r < 31, t.record r = if isStatusRecord r = true ∧ rebound (recordOwner r).1 (recordOwner r).2 = true
          then { s.record r with candidate := none } else s.record r) ∧
        pollsCancelled (fun a => meterRebound a && s.sweep.entries.any fun e => e.account == a) s.sweep t.sweep ∧
        (∀ a < s.billing.accounts.length, t.account a =
          if (s.accountSetting a).enabled = true ∧ meterRebound a = true then unreadGap (s.account a)
          else s.account a) ∧
        { t.billing with accounts := s.billing.accounts } = s.billing ∧
        { t with tables := s.tables, records := s.records, sweep := s.sweep, billing := s.billing
                 mgmt := s.mgmt } = s ∧ { t.mgmt with notices := s.mgmt.notices } = s.mgmt)

/-- R155, R157, R158, R179: a WRITE to T12: a meter index that two enabled accounts would name is answered DUPLICATE; a
taken write enables, disables or unsettles each account whose entry changes so, and cancels its poll. The two bytes of
its index (writeOperands) are log entry 8; that a disabling leaves the two counts of an account is log entry 30. -/
def Obligations.AccountsWritten : Prop :=
  ∀ (s : State) (q : Request) (rest : List Request) (index : Nat) (fs : List (List Nat)),
    fs ≠ [] → (∀ f ∈ fs, fieldsFit [1, 1, 2] f) → index < 65536 →
    Waiting s q rest 3 (writeOperands 12 index (fs.map (fieldBytes [1, 1, 2]))) →
    s.classOf q.station = some .engineer →
    let answers := fun (status : Nat) (t : State) => exec .writeT12 s = .next (answered q rest 3 status [] t)
    let carries := fun (f : List Nat) (e : AccountSetting) =>
      f = [if e.enabled then 1 else 0, e.meter, e.rate] ∧ e.inRange
    (96 < index + fs.length → answers 3 s) ∧
    (index + fs.length ≤ 96 → (∃ f ∈ fs, ∀ e, ¬ carries f e) → answers 4 s) ∧
    ∀ new : List AccountSetting, index + fs.length ≤ 96 → new.length = fs.length →
      (∀ (i : Nat) (f : List Nat) (e : AccountSetting), fs[i]? = some f → new[i]? = some e → carries f e) →
      let after := written s.tables.t12 index new
      let distinct := ((after.filter fun e => e.enabled).map fun e => e.meter).Nodup
      (¬ distinct → answers 5 s) ∧
      (distinct → s.tables.t12.length = 96 → s.billing.accounts.length = 96 → ∃ t, answers 0 t ∧
        t.tables = { s.tables with t12 := after } ∧
        (∀ a < 96,
          let was := s.accountSetting a
          let is := t.accountSetting a
          let old := s.account a
          let x := t.account a
          (was.enabled = false → is.enabled = false → x = old) ∧
          (was.enabled = true → is.enabled = true → was.meter = is.meter → x = old) ∧
          (was.enabled = true → is.enabled = true → was.meter ≠ is.meter → x = unreadGap old) ∧
          (was.enabled ≠ is.enabled → x =
            { state := if is.enabled then .unread else .disabled, baseline := none
              implausible := if is.enabled then 0 else old.implausible
              misses := if is.enabled then 0 else old.misses
              energies := List.replicate 8 0
              period := { first := none, last := none, missed := 0, fault := 0, rejected := 0, gap := false
                          baseline := false } })) ∧
        pollsCancelled (fun a => a < 96 && (s.accountSetting a).enabled &&
          (!(t.accountSetting a).enabled || (s.accountSetting a).meter != (t.accountSetting a).meter))
          s.sweep t.sweep ∧
        { t.billing with accounts := s.billing.accounts } = s.billing ∧
        { t with tables := s.tables, sweep := s.sweep, billing := s.billing, mgmt := s.mgmt } = s ∧
        { t.mgmt with notices := s.mgmt.notices } = s.mgmt)

/-- R180: EXCHANGE compares the expected entry with the current one: on a difference it is answered MISMATCH with the
current entry, and on a match it does and answers what a WRITE of the new entry would. The two bytes of its index
(writeOperands) are log entry 8. -/
def Obligations.Exchanged : Prop :=
  ∀ (s : State) (q : Request) (rest : List Request) (table index size : Nat) (expected new : List Byte)
    (es : List (List Byte)),
    table ≤ 14 → index < 65536 → entrySize table = some size → expected.length = size → new.length = size →
    Waiting s q rest 4 (writeOperands table index [expected, new]) →
    s.classOf q.station = some (if table = 10 ∨ table = 11 then .billing else .engineer) →
    tableEntries s table = some es → es.length = tableLength table →
    let operands := writeOperands table index [new]
    let request : Request := { q with payload := 3 :: operands }
    let writing : State := { s with mgmt := { s.mgmt with queue := request :: rest } }
    (es[index]? = none → exec .exchange s = .next (answered q rest 4 3 [] s)) ∧
    (∀ current, es[index]? = some current → expected ≠ current →
      exec .exchange s = .next (answered q rest 4 10 current s)) ∧
    (es[index]? = some expected → ∃ status data t,
      exec (writeCommand operands) writing = .next (answered request rest 3 status data t) ∧
      exec .exchange s = .next (answered q rest 4 status data t))

/-- R18, R142, R156, R181, R182: the thirteen counters have their places in the statistics set, and a count adds 1 to its
own, up to 4 294 967 295, and to no other. READ-STATS shows the counters, and clears them with its flag set; RESTART acts on the block
of its scope alone, and that of the sweep leaves the visit cursor (log entry 23); RESET places its reply and lets no
further request be served. -/
def Obligations.StatisticsRestartReset : Prop :=
  (∀ (s : State) (c : Counter), s.port.stats.length = 13 →
    let place : Nat := match c with
      | .forwarded => 0 | .inserted => 1 | .stripped => 2 | .abort => 3 | .size => 4 | .headerCheck => 5
      | .payloadCheck => 6 | .layout => 7 | .transitOverrun => 8 | .stationConflict => 9 | .lapMiss => 10
      | .mgmtOverrun => 11 | .lateReply => 12
    let t := s.count c
    t.port.stats.length = 13 ∧
      (∀ i < 13, t.port.stats.getD i 0 =
        if i = place then min 4294967295 (s.port.stats.getD i 0 + 1) else s.port.stats.getD i 0) ∧
      { t with port := { t.port with stats := s.port.stats } } = s) ∧
  ∀ (s : State) (q : Request) (rest : List Request),
    let data := s.port.stats.flatMap (be 4)
    let zero := { s with port := { s.port with stats := List.replicate 13 0 } }
    (Waiting s q rest 5 [0] → s.classOf q.station ≠ none → (∀ n ∈ s.port.stats, n ≤ 4294967295) →
      exec .readStats s = .next (answered q rest 5 0 data s)) ∧
    (s.classOf q.station = some .engineer →
      (Waiting s q rest 5 [1] → (∀ n ∈ s.port.stats, n ≤ 4294967295) →
        exec .readStatsClear s = .next (answered q rest 5 0 data zero)) ∧
      (Waiting s q rest 6 [1] → exec .restartSweep s = .next (answered q rest 6 0 [] { s with
        sweep := { s.sweep with
          state := .idle, intervalDue := none, overrun := false, entries := [], retries := []
          placement := List.replicate s.sweep.placement.length none } })) ∧
      (Waiting s q rest 6 [2] → exec .restartSettlementQueue s = .next (answered q rest 6 0 [] { s with
        tracker := { s.tracker with
          queue := [], pendingLoss := min 255 (s.tracker.pendingLoss + s.tracker.queue.length) } })) ∧
      (Waiting s q rest 6 [3] → exec .restartStatistics s = .next (answered q rest 6 0 [] zero)) ∧
      (Waiting s q rest 7 [] → exec .reset s = .next { s with
        mgmt := { s.mgmt with queue := rest, resetStage := .replyWaiting }
        port := { s.port with insertion := s.port.insertion ++
          [{ quota := .reply, destination := q.station, kind := 5, payload := [7, 0], echo := some q.seq
             endsPart := true }] } }))

/-- R183, R184: a notice event is discarded, or joins the pending set or replaces the pending value of its kind; a
NOTICE frame takes the whole set, in ascending code, and starts the notice interval. -/
def Obligations.NoticesGathered : Prop :=
  ∀ s : State,
    let t14 := s.tables.t14
    let sorted := fun l : List (Notice × Int) => l.Pairwise fun a b => a.1.code < b.1.code
    (∀ k v, (t14.destination = 0 ∨ t14.enabled.getLsbD k.code = false) → s.notice k v = s) ∧
    (∀ k v, t14.destination ≠ 0 → t14.enabled.getLsbD k.code = true → sorted s.mgmt.notices → ∃ l,
      s.notice k v = { s with mgmt := { s.mgmt with notices := l } } ∧ sorted l ∧
      ∀ x w, (x, w) ∈ l ↔ (x = k ∧ w = v) ∨ (x ≠ k ∧ (x, w) ∈ s.mgmt.notices)) ∧
    (s.outOfReset = true →
      let ready := s.mgmt.notices ≠ [] ∧ s.freeSlot .notice = true ∧ s.mgmt.noticeDue = none
      ((∀ p ∈ s.mgmt.notices, -2147483648 ≤ p.2 ∧ p.2 ≤ 2147483647) → ready →
        exec .noticeFrameBuilt s = .next { s with
          mgmt := { s.mgmt with notices := [], noticeDue := some (s.now + 1000) }
          port := { s.port with insertion := s.port.insertion ++
            [{ quota := .notice, destination := t14.destination, kind := 6
               payload := s.mgmt.notices.flatMap fun p => BitVec.ofNat 8 p.1.code :: setpointBytes p.2
               echo := none, endsPart := false }] } }) ∧
      (¬ ready → exec .noticeFrameBuilt s = .next s) ∧
      ∀ due, s.mgmt.noticeDue = some due → exec .noticeIntervalExpiry s = .next { s with
        now := max s.now due, mgmt := { s.mgmt with noticeDue := none } })

/-! ## What every step keeps -/

/-- R9, R12 to R15, R55, R137, R148, R171, R173, R178: no queue, quota or set of the part ever overruns. -/
def Obligations.CapacitiesKept : Prop :=
  ∀ s t : State, step s = .next t →
    (portLaw s → portLaw t) ∧ (quotaLaw s → quotaLaw t) ∧ (capacityLaw s → capacityLaw t)

/-- R116, R121: no step breaks the law of the cause set, nor the form of the set. -/
def Obligations.TripLawKept : Prop :=
  ∀ s t : State, step s = .next t → (tripLaw s → tripLaw t) ∧ (causeLaw s → causeLaw t)

/-- R98, R100, R102, R113: whatever happens while a governed DEMAND is being sent, the setpoint it carries stays between
0 and the governed limit of its record, and every limit stays between 0 and 1 000 000 kW, the range of a limit (a limit
may stand above a station maximum that was lowered since, R99). -/
def Obligations.SetpointLawKept : Prop :=
  ∀ s t : State, step s = .next t →
    (lineLaw s → lineLaw t) ∧ (limitLaw s → limitLaw t) ∧ (transitLaw s → transitLaw t) ∧
    (lineLaw s → limitLaw s → transitLaw s → setpointLaw s → setpointLaw t)

/-- R143, R147: no step gives an account a second outstanding poll, or more than four in all. -/
def Obligations.SweepLawKept : Prop :=
  ∀ s t : State, step s = .next t → sweepLaw s → sweepLaw t

/-- R22 to R24, R39, R43, R50, R62, R63, R92, R93, R130: the clock, the blow window, the period and its block, the
origin counters, the station table and the shape of the state keep their laws. -/
def Obligations.BlockStatesKept : Prop :=
  ∀ s t : State, step s = .next t →
    (blockLaw s → blockLaw t) ∧ (clockLaw s → clockLaw t) ∧ (windowLaw s → windowLaw t) ∧
    (originLaw s → originLaw t) ∧ (stationLaw s → stationLaw t) ∧ (shapeLaw s → shapeLaw t)
end

