-- ==== Sys2Proof/Laws/Lists.lean ====
section
/-! SUPPORT. Small facts about the lists and numbers the operations work on. -/

namespace Sys2Proof.Machine

/-! ## mapFrom and pushCapped -/

@[simp] theorem mapFrom_length {α β : Type} (f : Nat → α → β) (i : Nat) (l : List α) :
    (mapFrom f i l).length = l.length := by
  induction l generalizing i with
  | nil => rfl
  | cons a l ih => simp [mapFrom, ih]

@[simp] theorem mapFrom_getElem? {α β : Type} (f : Nat → α → β) (i j : Nat) (l : List α) :
    (mapFrom f i l)[j]? = l[j]?.map (f (i + j)) := by
  induction l generalizing i j with
  | nil => simp [mapFrom]
  | cons a l ih =>
    cases j with
    | zero => simp [mapFrom]
    | succ j => simp [mapFrom, ih, Nat.add_comm, Nat.add_left_comm]

theorem mapFrom_mem {α β : Type} {f : Nat → α → β} {i : Nat} {l : List α} {b : β} (h : b ∈ mapFrom f i l) :
    ∃ j, ∃ a ∈ l, b = f j a := by
  induction l generalizing i with
  | nil => simp [mapFrom] at h
  | cons a l ih =>
    simp only [mapFrom, List.mem_cons] at h
    rcases h with rfl | h
    · exact ⟨i, a, by simp, rfl⟩
    · obtain ⟨j, x, hx, rfl⟩ := ih h
      exact ⟨j, x, by simp [hx], rfl⟩

/-- A change that leaves every element as it is leaves the list. -/
theorem mapFrom_id {α : Type} (f : Nat → α → α) (i : Nat) (l : List α) (h : ∀ j, ∀ a ∈ l, f j a = a) :
    mapFrom f i l = l := by
  induction l generalizing i with
  | nil => rfl
  | cons a l ih =>
    simp only [mapFrom]
    rw [h i a (by simp), ih (i + 1) fun j x hx => h j x (by simp [hx])]

/-- A list that drops its oldest element when full never overruns. -/
theorem pushCapped_length {α : Type} {cap : Nat} {l : List α} (a : α) (hc : 0 < cap) (h : l.length ≤ cap) :
    (pushCapped cap l a).length ≤ cap := by
  unfold pushCapped
  split <;> simp <;> omega

/-- Entries written inside a table leave its length as it is. -/
theorem replaceFrom_length {α : Type} {table : List α} {index : Nat} {new : List α}
    (h : index + new.length ≤ table.length) : (replaceFrom table index new).length = table.length := by
  simp [replaceFrom]; omega

theorem replaceFrom_mem {α : Type} {table : List α} {index : Nat} {new : List α} {a : α}
    (h : a ∈ replaceFrom table index new) : a ∈ table ∨ a ∈ new := by
  simp only [replaceFrom, List.mem_append] at h
  rcases h with (h | h) | h
  · exact .inl (List.mem_of_mem_take h)
  · exact .inr h
  · exact .inl (List.mem_of_mem_drop h)

theorem written_eq_replaceFrom {α : Type} (table : List α) (index : Nat) (new : List α) :
    written table index new = replaceFrom table index new := rfl

/-! ## Numbers as bytes -/

@[simp] theorem be_length (n v : Nat) : (be n v).length = n := by
  induction n with
  | zero => rfl
  | succ n ih => simp [be, ih]

theorem be_mod (n v : Nat) : be n (v % 256 ^ n) = be n v := by
  suffices h : ∀ m, n ≤ m → be n (v % 256 ^ m) = be n v from h n le_rfl
  intro m hm
  induction n with
  | zero => rfl
  | succ n ih =>
    simp only [be]
    rw [ih (by omega)]
    congr 1
    apply BitVec.eq_of_toNat_eq
    simp only [BitVec.toNat_ofNat]
    obtain ⟨d, rfl⟩ := Nat.exists_eq_add_of_le hm
    have e : (256 : Nat) ^ (n + 1 + d) = 256 ^ n * 256 ^ (d + 1) := by ring
    rw [e, Nat.mod_mul_right_div_self, pow_succ 256 d, show (2 : Nat) ^ 8 = 256 from rfl,
      Nat.mod_mul_left_mod]

theorem unbe_append (xs ys : List Byte) : unbe (xs ++ ys) = unbe xs * 256 ^ ys.length + unbe ys := by
  induction ys using List.reverseRecOn with
  | nil => simp [unbe]
  | append_singleton ys y ih =>
    have one : ∀ l : List Byte, unbe (l ++ [y]) = unbe l * 256 + y.toNat := by intro l; simp [unbe]
    rw [← List.append_assoc, one, one, ih]
    simp only [List.length_append, List.length_singleton, pow_succ]
    ring

/-- What bytes carry comes back. -/
theorem unbe_be (n v : Nat) : unbe (be n v) = v % 256 ^ n := by
  induction n with
  | zero => simp [be, unbe, Nat.mod_one]
  | succ n ih =>
    have h : be (n + 1) v = [BitVec.ofNat 8 (v / 256 ^ n)] ++ be n v := rfl
    rw [h, unbe_append, ih, be_length]
    simp only [unbe, List.foldl_cons, List.foldl_nil, Nat.zero_mul, Nat.zero_add, BitVec.toNat_ofNat,
      show (2 : Nat) ^ 8 = 256 from rfl]
    rw [pow_succ, Nat.mod_mul (x := v) (a := 256 ^ n) (b := 256)]
    ring

theorem unbe_lt (bytes : List Byte) : unbe bytes < 256 ^ bytes.length := by
  induction bytes using List.reverseRecOn with
  | nil => simp [unbe]
  | append_singleton l b ih =>
    rw [unbe_append, List.length_append, pow_add]
    have hb := b.isLt
    simp only [unbe, List.foldl_cons, List.foldl_nil, Nat.zero_mul, Nat.zero_add, List.length_singleton, pow_one]
    simp only [unbe] at ih
    omega

/-- A value that fits its field is carried as it is. -/
theorem field_eq {n v : Nat} (h : v < 256 ^ n) : field n v = be n v := by simp [field, h]

@[simp] theorem field_length (n v : Nat) : (field n v).length = n := by simp [field]

@[simp] theorem signedField_length (n : Nat) (v : Int) : (signedField n v).length = n := by
  unfold signedField; split <;> simp

/-- R4: a setpoint that 4 bytes can carry, in two's complement. -/
theorem signedField_four {v : Int} (h : -2147483648 ≤ v ∧ v ≤ 2147483647) : signedField 4 v = setpointBytes v := by
  have : (-(2 ^ (8 * 4 - 1)) : Int) ≤ v ∧ v < 2 ^ (8 * 4 - 1) := by norm_num; omega
  simp only [signedField, this, and_self, if_true, setpointBytes]
  norm_num

/-! ## The pending set of notices -/

theorem enterNotice_ne_nil (k : Notice) (v : Int) (l : List (Notice × Int)) : enterNotice k v l ≠ [] := by
  cases l with
  | nil => simp [enterNotice]
  | cons p l => obtain ⟨k', v'⟩ := p; unfold enterNotice; split <;> [simp; split <;> simp]

/-- R183: no two kinds share a code. -/
theorem Notice.code_injective {a b : Notice} (h : a.code = b.code) : a = b := by
  cases a <;> cases b <;> simp_all [Notice.code]

end Sys2Proof.Machine
end

