-- ==== Sys2Proof/Laws/State.lean ====
section
/-! SUPPORT. What each named update of the state does to each of its fields: one lemma per field per update. -/

namespace Sys2Proof.Machine

variable (s : State)

/-! ### State.advanceTo -/

@[simp] theorem State.advanceTo_pins (t : Nat) : (s.advanceTo t).pins = s.pins := rfl
@[simp] theorem State.advanceTo_port (t : Nat) : (s.advanceTo t).port = s.port := rfl
@[simp] theorem State.advanceTo_tables (t : Nat) : (s.advanceTo t).tables = s.tables := rfl
@[simp] theorem State.advanceTo_records (t : Nat) : (s.advanceTo t).records = s.records := rfl
@[simp] theorem State.advanceTo_clock (t : Nat) : (s.advanceTo t).clock = s.clock := rfl
@[simp] theorem State.advanceTo_holder (t : Nat) : (s.advanceTo t).holder = s.holder := rfl
@[simp] theorem State.advanceTo_alloc (t : Nat) : (s.advanceTo t).alloc = s.alloc := rfl
@[simp] theorem State.advanceTo_governor (t : Nat) : (s.advanceTo t).governor = s.governor := rfl
@[simp] theorem State.advanceTo_latch (t : Nat) : (s.advanceTo t).latch = s.latch := rfl
@[simp] theorem State.advanceTo_tracker (t : Nat) : (s.advanceTo t).tracker = s.tracker := rfl
@[simp] theorem State.advanceTo_sweep (t : Nat) : (s.advanceTo t).sweep = s.sweep := rfl
@[simp] theorem State.advanceTo_billing (t : Nat) : (s.advanceTo t).billing = s.billing := rfl
@[simp] theorem State.advanceTo_mgmt (t : Nat) : (s.advanceTo t).mgmt = s.mgmt := rfl
@[simp] theorem State.advanceTo_now (t : Nat) : (s.advanceTo t).now = max s.now t := rfl
@[simp] theorem State.advanceTo_freeCount (t : Nat) : (s.advanceTo t).freeCount = s.freeCount := rfl
@[simp] theorem State.advanceTo_pending (t : Nat) : (s.advanceTo t).pending = s.pending := rfl

/-! ### State.later -/

@[simp] theorem State.later_pins (t : Nat) : (s.later t).pins = s.pins := rfl
@[simp] theorem State.later_port (t : Nat) : (s.later t).port = s.port := rfl
@[simp] theorem State.later_tables (t : Nat) : (s.later t).tables = s.tables := rfl
@[simp] theorem State.later_records (t : Nat) : (s.later t).records = s.records := rfl
@[simp] theorem State.later_clock (t : Nat) : (s.later t).clock = s.clock := rfl
@[simp] theorem State.later_holder (t : Nat) : (s.later t).holder = s.holder := rfl
@[simp] theorem State.later_alloc (t : Nat) : (s.later t).alloc = s.alloc := rfl
@[simp] theorem State.later_governor (t : Nat) : (s.later t).governor = s.governor := rfl
@[simp] theorem State.later_latch (t : Nat) : (s.later t).latch = s.latch := rfl
@[simp] theorem State.later_tracker (t : Nat) : (s.later t).tracker = s.tracker := rfl
@[simp] theorem State.later_sweep (t : Nat) : (s.later t).sweep = s.sweep := rfl
@[simp] theorem State.later_billing (t : Nat) : (s.later t).billing = s.billing := rfl
@[simp] theorem State.later_mgmt (t : Nat) : (s.later t).mgmt = s.mgmt := rfl
@[simp] theorem State.later_now (t : Nat) : (s.later t).now = s.now + t := rfl
@[simp] theorem State.later_freeCount (t : Nat) : (s.later t).freeCount = s.freeCount := rfl
@[simp] theorem State.later_pending (t : Nat) : (s.later t).pending = s.pending := rfl

/-! ### State.count -/

@[simp] theorem State.count_pins (c : Counter) : (s.count c).pins = s.pins := rfl
@[simp] theorem State.count_tables (c : Counter) : (s.count c).tables = s.tables := rfl
@[simp] theorem State.count_records (c : Counter) : (s.count c).records = s.records := rfl
@[simp] theorem State.count_clock (c : Counter) : (s.count c).clock = s.clock := rfl
@[simp] theorem State.count_holder (c : Counter) : (s.count c).holder = s.holder := rfl
@[simp] theorem State.count_alloc (c : Counter) : (s.count c).alloc = s.alloc := rfl
@[simp] theorem State.count_governor (c : Counter) : (s.count c).governor = s.governor := rfl
@[simp] theorem State.count_latch (c : Counter) : (s.count c).latch = s.latch := rfl
@[simp] theorem State.count_tracker (c : Counter) : (s.count c).tracker = s.tracker := rfl
@[simp] theorem State.count_sweep (c : Counter) : (s.count c).sweep = s.sweep := rfl
@[simp] theorem State.count_billing (c : Counter) : (s.count c).billing = s.billing := rfl
@[simp] theorem State.count_mgmt (c : Counter) : (s.count c).mgmt = s.mgmt := rfl
@[simp] theorem State.count_now (c : Counter) : (s.count c).now = s.now := rfl
@[simp] theorem State.count_freeCount (c : Counter) : (s.count c).freeCount = s.freeCount := rfl
@[simp] theorem State.count_pending (c : Counter) : (s.count c).pending = s.pending := rfl

/-! ### State.clearStats -/

@[simp] theorem State.clearStats_pins : (s.clearStats).pins = s.pins := rfl
@[simp] theorem State.clearStats_tables : (s.clearStats).tables = s.tables := rfl
@[simp] theorem State.clearStats_records : (s.clearStats).records = s.records := rfl
@[simp] theorem State.clearStats_clock : (s.clearStats).clock = s.clock := rfl
@[simp] theorem State.clearStats_holder : (s.clearStats).holder = s.holder := rfl
@[simp] theorem State.clearStats_alloc : (s.clearStats).alloc = s.alloc := rfl
@[simp] theorem State.clearStats_governor : (s.clearStats).governor = s.governor := rfl
@[simp] theorem State.clearStats_latch : (s.clearStats).latch = s.latch := rfl
@[simp] theorem State.clearStats_tracker : (s.clearStats).tracker = s.tracker := rfl
@[simp] theorem State.clearStats_sweep : (s.clearStats).sweep = s.sweep := rfl
@[simp] theorem State.clearStats_billing : (s.clearStats).billing = s.billing := rfl
@[simp] theorem State.clearStats_mgmt : (s.clearStats).mgmt = s.mgmt := rfl
@[simp] theorem State.clearStats_now : (s.clearStats).now = s.now := rfl
@[simp] theorem State.clearStats_freeCount : (s.clearStats).freeCount = s.freeCount := rfl
@[simp] theorem State.clearStats_pending : (s.clearStats).pending = s.pending := rfl

/-! ### State.place -/

@[simp] theorem State.place_pins (f : Inserted) : (s.place f).pins = s.pins := rfl
@[simp] theorem State.place_tables (f : Inserted) : (s.place f).tables = s.tables := rfl
@[simp] theorem State.place_records (f : Inserted) : (s.place f).records = s.records := rfl
@[simp] theorem State.place_clock (f : Inserted) : (s.place f).clock = s.clock := rfl
@[simp] theorem State.place_holder (f : Inserted) : (s.place f).holder = s.holder := rfl
@[simp] theorem State.place_alloc (f : Inserted) : (s.place f).alloc = s.alloc := rfl
@[simp] theorem State.place_governor (f : Inserted) : (s.place f).governor = s.governor := rfl
@[simp] theorem State.place_latch (f : Inserted) : (s.place f).latch = s.latch := rfl
@[simp] theorem State.place_tracker (f : Inserted) : (s.place f).tracker = s.tracker := rfl
@[simp] theorem State.place_sweep (f : Inserted) : (s.place f).sweep = s.sweep := rfl
@[simp] theorem State.place_billing (f : Inserted) : (s.place f).billing = s.billing := rfl
@[simp] theorem State.place_mgmt (f : Inserted) : (s.place f).mgmt = s.mgmt := rfl
@[simp] theorem State.place_now (f : Inserted) : (s.place f).now = s.now := rfl
@[simp] theorem State.place_freeCount (f : Inserted) : (s.place f).freeCount = s.freeCount := rfl
@[simp] theorem State.place_pending (f : Inserted) : (s.place f).pending = s.pending := rfl

/-! ### State.setRecord -/

@[simp] theorem State.setRecord_pins (r : Nat) (f : InputRecord → InputRecord) : (s.setRecord r f).pins = s.pins := rfl
@[simp] theorem State.setRecord_port (r : Nat) (f : InputRecord → InputRecord) : (s.setRecord r f).port = s.port := rfl
@[simp] theorem State.setRecord_tables (r : Nat) (f : InputRecord → InputRecord) : (s.setRecord r f).tables = s.tables := rfl
@[simp] theorem State.setRecord_records (r : Nat) (f : InputRecord → InputRecord) : (s.setRecord r f).records = s.records.modify r f := rfl
@[simp] theorem State.setRecord_clock (r : Nat) (f : InputRecord → InputRecord) : (s.setRecord r f).clock = s.clock := rfl
@[simp] theorem State.setRecord_holder (r : Nat) (f : InputRecord → InputRecord) : (s.setRecord r f).holder = s.holder := rfl
@[simp] theorem State.setRecord_alloc (r : Nat) (f : InputRecord → InputRecord) : (s.setRecord r f).alloc = s.alloc := rfl
@[simp] theorem State.setRecord_governor (r : Nat) (f : InputRecord → InputRecord) : (s.setRecord r f).governor = s.governor := rfl
@[simp] theorem State.setRecord_latch (r : Nat) (f : InputRecord → InputRecord) : (s.setRecord r f).latch = s.latch := rfl
@[simp] theorem State.setRecord_tracker (r : Nat) (f : InputRecord → InputRecord) : (s.setRecord r f).tracker = s.tracker := rfl
@[simp] theorem State.setRecord_sweep (r : Nat) (f : InputRecord → InputRecord) : (s.setRecord r f).sweep = s.sweep := rfl
@[simp] theorem State.setRecord_billing (r : Nat) (f : InputRecord → InputRecord) : (s.setRecord r f).billing = s.billing := rfl
@[simp] theorem State.setRecord_mgmt (r : Nat) (f : InputRecord → InputRecord) : (s.setRecord r f).mgmt = s.mgmt := rfl
@[simp] theorem State.setRecord_now (r : Nat) (f : InputRecord → InputRecord) : (s.setRecord r f).now = s.now := rfl
@[simp] theorem State.setRecord_freeCount (r : Nat) (f : InputRecord → InputRecord) : (s.setRecord r f).freeCount = s.freeCount := rfl
@[simp] theorem State.setRecord_pending (r : Nat) (f : InputRecord → InputRecord) : (s.setRecord r f).pending = s.pending := rfl

/-! ### State.onTables -/

@[simp] theorem State.onTables_pins (f : Tables → Tables) : (s.onTables f).pins = s.pins := rfl
@[simp] theorem State.onTables_port (f : Tables → Tables) : (s.onTables f).port = s.port := rfl
@[simp] theorem State.onTables_tables (f : Tables → Tables) : (s.onTables f).tables = f s.tables := rfl
@[simp] theorem State.onTables_records (f : Tables → Tables) : (s.onTables f).records = s.records := rfl
@[simp] theorem State.onTables_clock (f : Tables → Tables) : (s.onTables f).clock = s.clock := rfl
@[simp] theorem State.onTables_holder (f : Tables → Tables) : (s.onTables f).holder = s.holder := rfl
@[simp] theorem State.onTables_alloc (f : Tables → Tables) : (s.onTables f).alloc = s.alloc := rfl
@[simp] theorem State.onTables_governor (f : Tables → Tables) : (s.onTables f).governor = s.governor := rfl
@[simp] theorem State.onTables_latch (f : Tables → Tables) : (s.onTables f).latch = s.latch := rfl
@[simp] theorem State.onTables_tracker (f : Tables → Tables) : (s.onTables f).tracker = s.tracker := rfl
@[simp] theorem State.onTables_sweep (f : Tables → Tables) : (s.onTables f).sweep = s.sweep := rfl
@[simp] theorem State.onTables_billing (f : Tables → Tables) : (s.onTables f).billing = s.billing := rfl
@[simp] theorem State.onTables_mgmt (f : Tables → Tables) : (s.onTables f).mgmt = s.mgmt := rfl
@[simp] theorem State.onTables_now (f : Tables → Tables) : (s.onTables f).now = s.now := rfl
@[simp] theorem State.onTables_freeCount (f : Tables → Tables) : (s.onTables f).freeCount = s.freeCount := rfl
@[simp] theorem State.onTables_pending (f : Tables → Tables) : (s.onTables f).pending = s.pending := rfl

/-! ### State.setAccount -/

@[simp] theorem State.setAccount_pins (a : Nat) (f : Account → Account) : (s.setAccount a f).pins = s.pins := rfl
@[simp] theorem State.setAccount_port (a : Nat) (f : Account → Account) : (s.setAccount a f).port = s.port := rfl
@[simp] theorem State.setAccount_tables (a : Nat) (f : Account → Account) : (s.setAccount a f).tables = s.tables := rfl
@[simp] theorem State.setAccount_records (a : Nat) (f : Account → Account) : (s.setAccount a f).records = s.records := rfl
@[simp] theorem State.setAccount_clock (a : Nat) (f : Account → Account) : (s.setAccount a f).clock = s.clock := rfl
@[simp] theorem State.setAccount_holder (a : Nat) (f : Account → Account) : (s.setAccount a f).holder = s.holder := rfl
@[simp] theorem State.setAccount_alloc (a : Nat) (f : Account → Account) : (s.setAccount a f).alloc = s.alloc := rfl
@[simp] theorem State.setAccount_governor (a : Nat) (f : Account → Account) : (s.setAccount a f).governor = s.governor := rfl
@[simp] theorem State.setAccount_latch (a : Nat) (f : Account → Account) : (s.setAccount a f).latch = s.latch := rfl
@[simp] theorem State.setAccount_tracker (a : Nat) (f : Account → Account) : (s.setAccount a f).tracker = s.tracker := rfl
@[simp] theorem State.setAccount_sweep (a : Nat) (f : Account → Account) : (s.setAccount a f).sweep = s.sweep := rfl
@[simp] theorem State.setAccount_mgmt (a : Nat) (f : Account → Account) : (s.setAccount a f).mgmt = s.mgmt := rfl
@[simp] theorem State.setAccount_now (a : Nat) (f : Account → Account) : (s.setAccount a f).now = s.now := rfl
@[simp] theorem State.setAccount_freeCount (a : Nat) (f : Account → Account) : (s.setAccount a f).freeCount = s.freeCount := rfl
@[simp] theorem State.setAccount_pending (a : Nat) (f : Account → Account) : (s.setAccount a f).pending = s.pending := rfl

/-! ### State.onBlock -/

@[simp] theorem State.onBlock_pins (f : Block → Block) : (s.onBlock f).pins = s.pins := rfl
@[simp] theorem State.onBlock_port (f : Block → Block) : (s.onBlock f).port = s.port := rfl
@[simp] theorem State.onBlock_tables (f : Block → Block) : (s.onBlock f).tables = s.tables := rfl
@[simp] theorem State.onBlock_records (f : Block → Block) : (s.onBlock f).records = s.records := rfl
@[simp] theorem State.onBlock_clock (f : Block → Block) : (s.onBlock f).clock = s.clock := rfl
@[simp] theorem State.onBlock_holder (f : Block → Block) : (s.onBlock f).holder = s.holder := rfl
@[simp] theorem State.onBlock_alloc (f : Block → Block) : (s.onBlock f).alloc = s.alloc := rfl
@[simp] theorem State.onBlock_governor (f : Block → Block) : (s.onBlock f).governor = s.governor := rfl
@[simp] theorem State.onBlock_latch (f : Block → Block) : (s.onBlock f).latch = s.latch := rfl
@[simp] theorem State.onBlock_sweep (f : Block → Block) : (s.onBlock f).sweep = s.sweep := rfl
@[simp] theorem State.onBlock_billing (f : Block → Block) : (s.onBlock f).billing = s.billing := rfl
@[simp] theorem State.onBlock_mgmt (f : Block → Block) : (s.onBlock f).mgmt = s.mgmt := rfl
@[simp] theorem State.onBlock_now (f : Block → Block) : (s.onBlock f).now = s.now := rfl
@[simp] theorem State.onBlock_freeCount (f : Block → Block) : (s.onBlock f).freeCount = s.freeCount := rfl
@[simp] theorem State.onBlock_pending (f : Block → Block) : (s.onBlock f).pending = s.pending := rfl

/-! ### State.markBlock -/

@[simp] theorem State.markBlock_pins (f : BlockFlags → BlockFlags) : (s.markBlock f).pins = s.pins := rfl
@[simp] theorem State.markBlock_port (f : BlockFlags → BlockFlags) : (s.markBlock f).port = s.port := rfl
@[simp] theorem State.markBlock_tables (f : BlockFlags → BlockFlags) : (s.markBlock f).tables = s.tables := rfl
@[simp] theorem State.markBlock_records (f : BlockFlags → BlockFlags) : (s.markBlock f).records = s.records := rfl
@[simp] theorem State.markBlock_clock (f : BlockFlags → BlockFlags) : (s.markBlock f).clock = s.clock := rfl
@[simp] theorem State.markBlock_holder (f : BlockFlags → BlockFlags) : (s.markBlock f).holder = s.holder := rfl
@[simp] theorem State.markBlock_alloc (f : BlockFlags → BlockFlags) : (s.markBlock f).alloc = s.alloc := rfl
@[simp] theorem State.markBlock_governor (f : BlockFlags → BlockFlags) : (s.markBlock f).governor = s.governor := rfl
@[simp] theorem State.markBlock_latch (f : BlockFlags → BlockFlags) : (s.markBlock f).latch = s.latch := rfl
@[simp] theorem State.markBlock_sweep (f : BlockFlags → BlockFlags) : (s.markBlock f).sweep = s.sweep := rfl
@[simp] theorem State.markBlock_billing (f : BlockFlags → BlockFlags) : (s.markBlock f).billing = s.billing := rfl
@[simp] theorem State.markBlock_mgmt (f : BlockFlags → BlockFlags) : (s.markBlock f).mgmt = s.mgmt := rfl
@[simp] theorem State.markBlock_now (f : BlockFlags → BlockFlags) : (s.markBlock f).now = s.now := rfl
@[simp] theorem State.markBlock_freeCount (f : BlockFlags → BlockFlags) : (s.markBlock f).freeCount = s.freeCount := rfl
@[simp] theorem State.markBlock_pending (f : BlockFlags → BlockFlags) : (s.markBlock f).pending = s.pending := rfl

/-! ### State.setGrant -/

@[simp] theorem State.setGrant_pins (k : Nat) (f : GrantRecord → GrantRecord) : (s.setGrant k f).pins = s.pins := rfl
@[simp] theorem State.setGrant_port (k : Nat) (f : GrantRecord → GrantRecord) : (s.setGrant k f).port = s.port := rfl
@[simp] theorem State.setGrant_tables (k : Nat) (f : GrantRecord → GrantRecord) : (s.setGrant k f).tables = s.tables := rfl
@[simp] theorem State.setGrant_records (k : Nat) (f : GrantRecord → GrantRecord) : (s.setGrant k f).records = s.records := rfl
@[simp] theorem State.setGrant_clock (k : Nat) (f : GrantRecord → GrantRecord) : (s.setGrant k f).clock = s.clock := rfl
@[simp] theorem State.setGrant_holder (k : Nat) (f : GrantRecord → GrantRecord) : (s.setGrant k f).holder = s.holder := rfl
@[simp] theorem State.setGrant_alloc (k : Nat) (f : GrantRecord → GrantRecord) : (s.setGrant k f).alloc = s.alloc := rfl
@[simp] theorem State.setGrant_latch (k : Nat) (f : GrantRecord → GrantRecord) : (s.setGrant k f).latch = s.latch := rfl
@[simp] theorem State.setGrant_tracker (k : Nat) (f : GrantRecord → GrantRecord) : (s.setGrant k f).tracker = s.tracker := rfl
@[simp] theorem State.setGrant_sweep (k : Nat) (f : GrantRecord → GrantRecord) : (s.setGrant k f).sweep = s.sweep := rfl
@[simp] theorem State.setGrant_billing (k : Nat) (f : GrantRecord → GrantRecord) : (s.setGrant k f).billing = s.billing := rfl
@[simp] theorem State.setGrant_mgmt (k : Nat) (f : GrantRecord → GrantRecord) : (s.setGrant k f).mgmt = s.mgmt := rfl
@[simp] theorem State.setGrant_now (k : Nat) (f : GrantRecord → GrantRecord) : (s.setGrant k f).now = s.now := rfl
@[simp] theorem State.setGrant_freeCount (k : Nat) (f : GrantRecord → GrantRecord) : (s.setGrant k f).freeCount = s.freeCount := rfl
@[simp] theorem State.setGrant_pending (k : Nat) (f : GrantRecord → GrantRecord) : (s.setGrant k f).pending = s.pending := rfl

/-! ### State.onGrants -/

@[simp] theorem State.onGrants_pins (f : Nat → Bool → GrantRecord → GrantRecord) : (s.onGrants f).pins = s.pins := rfl
@[simp] theorem State.onGrants_port (f : Nat → Bool → GrantRecord → GrantRecord) : (s.onGrants f).port = s.port := rfl
@[simp] theorem State.onGrants_tables (f : Nat → Bool → GrantRecord → GrantRecord) : (s.onGrants f).tables = s.tables := rfl
@[simp] theorem State.onGrants_records (f : Nat → Bool → GrantRecord → GrantRecord) : (s.onGrants f).records = s.records := rfl
@[simp] theorem State.onGrants_clock (f : Nat → Bool → GrantRecord → GrantRecord) : (s.onGrants f).clock = s.clock := rfl
@[simp] theorem State.onGrants_holder (f : Nat → Bool → GrantRecord → GrantRecord) : (s.onGrants f).holder = s.holder := rfl
@[simp] theorem State.onGrants_alloc (f : Nat → Bool → GrantRecord → GrantRecord) : (s.onGrants f).alloc = s.alloc := rfl
@[simp] theorem State.onGrants_latch (f : Nat → Bool → GrantRecord → GrantRecord) : (s.onGrants f).latch = s.latch := rfl
@[simp] theorem State.onGrants_tracker (f : Nat → Bool → GrantRecord → GrantRecord) : (s.onGrants f).tracker = s.tracker := rfl
@[simp] theorem State.onGrants_sweep (f : Nat → Bool → GrantRecord → GrantRecord) : (s.onGrants f).sweep = s.sweep := rfl
@[simp] theorem State.onGrants_billing (f : Nat → Bool → GrantRecord → GrantRecord) : (s.onGrants f).billing = s.billing := rfl
@[simp] theorem State.onGrants_mgmt (f : Nat → Bool → GrantRecord → GrantRecord) : (s.onGrants f).mgmt = s.mgmt := rfl
@[simp] theorem State.onGrants_now (f : Nat → Bool → GrantRecord → GrantRecord) : (s.onGrants f).now = s.now := rfl
@[simp] theorem State.onGrants_freeCount (f : Nat → Bool → GrantRecord → GrantRecord) : (s.onGrants f).freeCount = s.freeCount := rfl
@[simp] theorem State.onGrants_pending (f : Nat → Bool → GrantRecord → GrantRecord) : (s.onGrants f).pending = s.pending := rfl

/-! ### State.putOnLine -/

@[simp] theorem State.putOnLine_pins (k : Nat) : (s.putOnLine k).pins = s.pins := rfl
@[simp] theorem State.putOnLine_port (k : Nat) : (s.putOnLine k).port = s.port := rfl
@[simp] theorem State.putOnLine_tables (k : Nat) : (s.putOnLine k).tables = s.tables := rfl
@[simp] theorem State.putOnLine_records (k : Nat) : (s.putOnLine k).records = s.records := rfl
@[simp] theorem State.putOnLine_clock (k : Nat) : (s.putOnLine k).clock = s.clock := rfl
@[simp] theorem State.putOnLine_holder (k : Nat) : (s.putOnLine k).holder = s.holder := rfl
@[simp] theorem State.putOnLine_alloc (k : Nat) : (s.putOnLine k).alloc = s.alloc := rfl
@[simp] theorem State.putOnLine_latch (k : Nat) : (s.putOnLine k).latch = s.latch := rfl
@[simp] theorem State.putOnLine_tracker (k : Nat) : (s.putOnLine k).tracker = s.tracker := rfl
@[simp] theorem State.putOnLine_sweep (k : Nat) : (s.putOnLine k).sweep = s.sweep := rfl
@[simp] theorem State.putOnLine_billing (k : Nat) : (s.putOnLine k).billing = s.billing := rfl
@[simp] theorem State.putOnLine_mgmt (k : Nat) : (s.putOnLine k).mgmt = s.mgmt := rfl
@[simp] theorem State.putOnLine_now (k : Nat) : (s.putOnLine k).now = s.now := rfl
@[simp] theorem State.putOnLine_freeCount (k : Nat) : (s.putOnLine k).freeCount = s.freeCount := rfl
@[simp] theorem State.putOnLine_pending (k : Nat) : (s.putOnLine k).pending = s.pending := rfl

/-! ### State.onSweep -/

@[simp] theorem State.onSweep_pins (f : Sweep → Sweep) : (s.onSweep f).pins = s.pins := rfl
@[simp] theorem State.onSweep_port (f : Sweep → Sweep) : (s.onSweep f).port = s.port := rfl
@[simp] theorem State.onSweep_tables (f : Sweep → Sweep) : (s.onSweep f).tables = s.tables := rfl
@[simp] theorem State.onSweep_records (f : Sweep → Sweep) : (s.onSweep f).records = s.records := rfl
@[simp] theorem State.onSweep_clock (f : Sweep → Sweep) : (s.onSweep f).clock = s.clock := rfl
@[simp] theorem State.onSweep_holder (f : Sweep → Sweep) : (s.onSweep f).holder = s.holder := rfl
@[simp] theorem State.onSweep_alloc (f : Sweep → Sweep) : (s.onSweep f).alloc = s.alloc := rfl
@[simp] theorem State.onSweep_governor (f : Sweep → Sweep) : (s.onSweep f).governor = s.governor := rfl
@[simp] theorem State.onSweep_latch (f : Sweep → Sweep) : (s.onSweep f).latch = s.latch := rfl
@[simp] theorem State.onSweep_tracker (f : Sweep → Sweep) : (s.onSweep f).tracker = s.tracker := rfl
@[simp] theorem State.onSweep_sweep (f : Sweep → Sweep) : (s.onSweep f).sweep = f s.sweep := rfl
@[simp] theorem State.onSweep_billing (f : Sweep → Sweep) : (s.onSweep f).billing = s.billing := rfl
@[simp] theorem State.onSweep_mgmt (f : Sweep → Sweep) : (s.onSweep f).mgmt = s.mgmt := rfl
@[simp] theorem State.onSweep_now (f : Sweep → Sweep) : (s.onSweep f).now = s.now := rfl
@[simp] theorem State.onSweep_freeCount (f : Sweep → Sweep) : (s.onSweep f).freeCount = s.freeCount := rfl
@[simp] theorem State.onSweep_pending (f : Sweep → Sweep) : (s.onSweep f).pending = s.pending := rfl

/-! ### Parts of the fields an update does change -/

@[simp] theorem State.count_port_flagSeen (c : Counter) : (s.count c).port.flagSeen = s.port.flagSeen := rfl
@[simp] theorem State.count_port_transit (c : Counter) : (s.count c).port.transit = s.port.transit := rfl
@[simp] theorem State.count_port_insertion (c : Counter) : (s.count c).port.insertion = s.port.insertion := rfl
@[simp] theorem State.count_port_ringOut (c : Counter) : (s.count c).port.ringOut = s.port.ringOut := rfl
@[simp] theorem State.count_port_ownSet (c : Counter) : (s.count c).port.ownSet = s.port.ownSet := rfl
@[simp] theorem State.count_port_seqCounter (c : Counter) : (s.count c).port.seqCounter = s.port.seqCounter := rfl
@[simp] theorem State.count_port_missCount (c : Counter) : (s.count c).port.missCount = s.port.missCount := rfl
@[simp] theorem State.count_port_ringState (c : Counter) : (s.count c).port.ringState = s.port.ringState := rfl
@[simp] theorem State.count_port_probeDue (c : Counter) : (s.count c).port.probeDue = s.port.probeDue := rfl
@[simp] theorem State.count_port_lastOut (c : Counter) : (s.count c).port.lastOut = s.port.lastOut := rfl
@[simp] theorem State.clearStats_port_flagSeen : (s.clearStats).port.flagSeen = s.port.flagSeen := rfl
@[simp] theorem State.clearStats_port_transit : (s.clearStats).port.transit = s.port.transit := rfl
@[simp] theorem State.clearStats_port_insertion : (s.clearStats).port.insertion = s.port.insertion := rfl
@[simp] theorem State.clearStats_port_ringOut : (s.clearStats).port.ringOut = s.port.ringOut := rfl
@[simp] theorem State.clearStats_port_ownSet : (s.clearStats).port.ownSet = s.port.ownSet := rfl
@[simp] theorem State.clearStats_port_seqCounter : (s.clearStats).port.seqCounter = s.port.seqCounter := rfl
@[simp] theorem State.clearStats_port_missCount : (s.clearStats).port.missCount = s.port.missCount := rfl
@[simp] theorem State.clearStats_port_ringState : (s.clearStats).port.ringState = s.port.ringState := rfl
@[simp] theorem State.clearStats_port_probeDue : (s.clearStats).port.probeDue = s.port.probeDue := rfl
@[simp] theorem State.clearStats_port_lastOut : (s.clearStats).port.lastOut = s.port.lastOut := rfl
@[simp] theorem State.place_port_flagSeen (f : Inserted) : (s.place f).port.flagSeen = s.port.flagSeen := rfl
@[simp] theorem State.place_port_transit (f : Inserted) : (s.place f).port.transit = s.port.transit := rfl
@[simp] theorem State.place_port_ringOut (f : Inserted) : (s.place f).port.ringOut = s.port.ringOut := rfl
@[simp] theorem State.place_port_ownSet (f : Inserted) : (s.place f).port.ownSet = s.port.ownSet := rfl
@[simp] theorem State.place_port_seqCounter (f : Inserted) : (s.place f).port.seqCounter = s.port.seqCounter := rfl
@[simp] theorem State.place_port_missCount (f : Inserted) : (s.place f).port.missCount = s.port.missCount := rfl
@[simp] theorem State.place_port_ringState (f : Inserted) : (s.place f).port.ringState = s.port.ringState := rfl
@[simp] theorem State.place_port_probeDue (f : Inserted) : (s.place f).port.probeDue = s.port.probeDue := rfl
@[simp] theorem State.place_port_stats (f : Inserted) : (s.place f).port.stats = s.port.stats := rfl
@[simp] theorem State.place_port_lastOut (f : Inserted) : (s.place f).port.lastOut = s.port.lastOut := rfl
@[simp] theorem State.setAccount_billing_queue (a : Nat) (f : Account → Account) : (s.setAccount a f).billing.queue = s.billing.queue := rfl
@[simp] theorem State.setAccount_billing_closeCounter (a : Nat) (f : Account → Account) : (s.setAccount a f).billing.closeCounter = s.billing.closeCounter := rfl
@[simp] theorem State.setAccount_billing_periodStart (a : Nat) (f : Account → Account) : (s.setAccount a f).billing.periodStart = s.billing.periodStart := rfl
@[simp] theorem State.onBlock_tracker_attributed (f : Block → Block) : (s.onBlock f).tracker.attributed = s.tracker.attributed := rfl
@[simp] theorem State.onBlock_tracker_pendingLoss (f : Block → Block) : (s.onBlock f).tracker.pendingLoss = s.tracker.pendingLoss := rfl
@[simp] theorem State.onBlock_tracker_nextNumber (f : Block → Block) : (s.onBlock f).tracker.nextNumber = s.tracker.nextNumber := rfl
@[simp] theorem State.onBlock_tracker_queue (f : Block → Block) : (s.onBlock f).tracker.queue = s.tracker.queue := rfl
@[simp] theorem State.markBlock_tracker_attributed (f : BlockFlags → BlockFlags) : (s.markBlock f).tracker.attributed = s.tracker.attributed := rfl
@[simp] theorem State.markBlock_tracker_pendingLoss (f : BlockFlags → BlockFlags) : (s.markBlock f).tracker.pendingLoss = s.tracker.pendingLoss := rfl
@[simp] theorem State.markBlock_tracker_nextNumber (f : BlockFlags → BlockFlags) : (s.markBlock f).tracker.nextNumber = s.tracker.nextNumber := rfl
@[simp] theorem State.markBlock_tracker_queue (f : BlockFlags → BlockFlags) : (s.markBlock f).tracker.queue = s.tracker.queue := rfl
@[simp] theorem State.setGrant_governor_onLine (k : Nat) (f : GrantRecord → GrantRecord) : (s.setGrant k f).governor.onLine = s.governor.onLine := rfl
@[simp] theorem State.onGrants_governor_onLine (f : Nat → Bool → GrantRecord → GrantRecord) : (s.onGrants f).governor.onLine = s.governor.onLine := rfl
@[simp] theorem State.count_port_stats (c : Counter) :
    (s.count c).port.stats = s.port.stats.modify c.index (saturating 4294967295 1) := rfl
@[simp] theorem State.clearStats_port_stats : s.clearStats.port.stats = List.replicate 13 0 := rfl
@[simp] theorem State.place_port_insertion (f : Inserted) :
    (s.place f).port.insertion = s.port.insertion ++ [f] := rfl
@[simp] theorem State.setAccount_billing_accounts (a : Nat) (f : Account → Account) :
    (s.setAccount a f).billing.accounts = s.billing.accounts.modify a f := rfl
@[simp] theorem State.onBlock_tracker_block (f : Block → Block) :
    (s.onBlock f).tracker.block = s.tracker.block.map f := rfl
@[simp] theorem State.setGrant_governor_grants (k : Nat) (f : GrantRecord → GrantRecord) :
    (s.setGrant k f).governor.grants = s.governor.grants.modify k f := rfl
@[simp] theorem State.onGrants_governor_grants (f : Nat → Bool → GrantRecord → GrantRecord) :
    (s.onGrants f).governor.grants =
      mapFrom (fun k r => f k (s.governor.onLine == some k) r) 0 s.governor.grants := rfl
@[simp] theorem State.putOnLine_governor_onLine (k : Nat) : (s.putOnLine k).governor.onLine = some k := rfl
@[simp] theorem State.putOnLine_governor_grants (k : Nat) :
    (s.putOnLine k).governor.grants = s.governor.grants := rfl

/-! ### State.notice: it changes the pending set alone -/

@[simp] theorem State.notice_pins (k : Notice) (v : Int) : (s.notice k v).pins = s.pins := by
  unfold State.notice; split <;> rfl
@[simp] theorem State.notice_port (k : Notice) (v : Int) : (s.notice k v).port = s.port := by
  unfold State.notice; split <;> rfl
@[simp] theorem State.notice_tables (k : Notice) (v : Int) : (s.notice k v).tables = s.tables := by
  unfold State.notice; split <;> rfl
@[simp] theorem State.notice_records (k : Notice) (v : Int) : (s.notice k v).records = s.records := by
  unfold State.notice; split <;> rfl
@[simp] theorem State.notice_clock (k : Notice) (v : Int) : (s.notice k v).clock = s.clock := by
  unfold State.notice; split <;> rfl
@[simp] theorem State.notice_holder (k : Notice) (v : Int) : (s.notice k v).holder = s.holder := by
  unfold State.notice; split <;> rfl
@[simp] theorem State.notice_alloc (k : Notice) (v : Int) : (s.notice k v).alloc = s.alloc := by
  unfold State.notice; split <;> rfl
@[simp] theorem State.notice_governor (k : Notice) (v : Int) : (s.notice k v).governor = s.governor := by
  unfold State.notice; split <;> rfl
@[simp] theorem State.notice_latch (k : Notice) (v : Int) : (s.notice k v).latch = s.latch := by
  unfold State.notice; split <;> rfl
@[simp] theorem State.notice_tracker (k : Notice) (v : Int) : (s.notice k v).tracker = s.tracker := by
  unfold State.notice; split <;> rfl
@[simp] theorem State.notice_sweep (k : Notice) (v : Int) : (s.notice k v).sweep = s.sweep := by
  unfold State.notice; split <;> rfl
@[simp] theorem State.notice_billing (k : Notice) (v : Int) : (s.notice k v).billing = s.billing := by
  unfold State.notice; split <;> rfl
@[simp] theorem State.notice_now (k : Notice) (v : Int) : (s.notice k v).now = s.now := by
  unfold State.notice; split <;> rfl
@[simp] theorem State.notice_freeCount (k : Notice) (v : Int) : (s.notice k v).freeCount = s.freeCount := by
  unfold State.notice; split <;> rfl
@[simp] theorem State.notice_pending (k : Notice) (v : Int) : (s.notice k v).pending = s.pending := by
  unfold State.notice; split <;> rfl
@[simp] theorem State.notice_mgmt_queue (k : Notice) (v : Int) : (s.notice k v).mgmt.queue = s.mgmt.queue := by
  unfold State.notice; split <;> rfl
@[simp] theorem State.notice_mgmt_cursors (k : Notice) (v : Int) : (s.notice k v).mgmt.cursors = s.mgmt.cursors := by
  unfold State.notice; split <;> rfl
@[simp] theorem State.notice_mgmt_noticeDue (k : Notice) (v : Int) : (s.notice k v).mgmt.noticeDue = s.mgmt.noticeDue := by
  unfold State.notice; split <;> rfl
@[simp] theorem State.notice_mgmt_resetStage (k : Notice) (v : Int) : (s.notice k v).mgmt.resetStage = s.mgmt.resetStage := by
  unfold State.notice; split <;> rfl

/-- A notice event changes the Management Unit alone. -/
theorem State.notice_eq (k : Notice) (v : Int) : s.notice k v = { s with mgmt := (s.notice k v).mgmt } := by
  unfold State.notice; split <;> rfl

/-- What a notice event makes of the Management Unit depends on T14 and on that unit alone. -/
theorem State.notice_mgmt_congr {s t : State} (hn : t.tables.t14 = s.tables.t14) (hm : t.mgmt = s.mgmt)
    (k : Notice) (v : Int) : (t.notice k v).mgmt = (s.notice k v).mgmt := by
  unfold State.notice; rw [hn]; split <;> simp [hm]

/-! ### What the state reads as depends on no other field -/

@[simp] theorem State.count_outOfReset (c : Counter) : (s.count c).outOfReset = s.outOfReset := rfl
@[simp] theorem State.advanceTo_outOfReset (t : Nat) : (s.advanceTo t).outOfReset = s.outOfReset := rfl
@[simp] theorem State.later_outOfReset (t : Nat) : (s.later t).outOfReset = s.outOfReset := rfl
@[simp] theorem State.notice_outOfReset (k : Notice) (v : Int) : (s.notice k v).outOfReset = s.outOfReset := by
  simp [State.outOfReset]

end Sys2Proof.Machine
end

