-- ==== Sys2Proof/Laws/Frames.lean ====
section
/-! SUPPORT. Which parts of the state each shared operation can change: `Changes parts s t` says that `t` is `s` but
for the parts named, and every operation has one such lemma. -/

namespace Sys2Proof.Machine

/-- The parts of the state, with the pending set of notices apart from the rest of the Management Unit. -/
inductive Part where
  | pins | port | tables | records | clock | holder | alloc | governor | latch | tracker | sweep | billing
  | notices | mgmt | now | freeCount
  deriving DecidableEq, Repr

/-- `t` is `s` but for the parts named; no operation touches the queue of commands. -/
structure Changes (parts : List Part) (s t : State) : Prop where
  pins : .pins ∈ parts ∨ t.pins = s.pins
  port : .port ∈ parts ∨ t.port = s.port
  tables : .tables ∈ parts ∨ t.tables = s.tables
  records : .records ∈ parts ∨ t.records = s.records
  clock : .clock ∈ parts ∨ t.clock = s.clock
  holder : .holder ∈ parts ∨ t.holder = s.holder
  alloc : .alloc ∈ parts ∨ t.alloc = s.alloc
  governor : .governor ∈ parts ∨ t.governor = s.governor
  latch : .latch ∈ parts ∨ t.latch = s.latch
  tracker : .tracker ∈ parts ∨ t.tracker = s.tracker
  sweep : .sweep ∈ parts ∨ t.sweep = s.sweep
  billing : .billing ∈ parts ∨ t.billing = s.billing
  notices : .notices ∈ parts ∨ t.mgmt.notices = s.mgmt.notices
  mgmt : .mgmt ∈ parts ∨ { t.mgmt with notices := s.mgmt.notices } = s.mgmt
  now : .now ∈ parts ∨ t.now = s.now
  freeCount : .freeCount ∈ parts ∨ t.freeCount = s.freeCount
  pending : t.pending = s.pending

theorem Changes.refl (parts : List Part) (s : State) : Changes parts s s := by
  constructor <;> first | rfl | exact .inr rfl

theorem Changes.trans {parts : List Part} {s t u : State} (a : Changes parts s t) (b : Changes parts t u) :
    Changes parts s u where
  pins := a.pins.elim .inl fun x => b.pins.imp id (·.trans x)
  port := a.port.elim .inl fun x => b.port.imp id (·.trans x)
  tables := a.tables.elim .inl fun x => b.tables.imp id (·.trans x)
  records := a.records.elim .inl fun x => b.records.imp id (·.trans x)
  clock := a.clock.elim .inl fun x => b.clock.imp id (·.trans x)
  holder := a.holder.elim .inl fun x => b.holder.imp id (·.trans x)
  alloc := a.alloc.elim .inl fun x => b.alloc.imp id (·.trans x)
  governor := a.governor.elim .inl fun x => b.governor.imp id (·.trans x)
  latch := a.latch.elim .inl fun x => b.latch.imp id (·.trans x)
  tracker := a.tracker.elim .inl fun x => b.tracker.imp id (·.trans x)
  sweep := a.sweep.elim .inl fun x => b.sweep.imp id (·.trans x)
  billing := a.billing.elim .inl fun x => b.billing.imp id (·.trans x)
  notices := a.notices.elim .inl fun x => b.notices.imp id (·.trans x)
  mgmt := a.mgmt.elim .inl fun x => b.mgmt.imp id fun y => by
    rw [← x, ← y]
  now := a.now.elim .inl fun x => b.now.imp id (·.trans x)
  freeCount := a.freeCount.elim .inl fun x => b.freeCount.imp id (·.trans x)
  pending := b.pending.trans a.pending

theorem Changes.weaken {parts more : List Part} {s t : State} (a : Changes parts s t) (h : ∀ p ∈ parts, p ∈ more) :
    Changes more s t where
  pins := a.pins.imp (h _) id
  port := a.port.imp (h _) id
  tables := a.tables.imp (h _) id
  records := a.records.imp (h _) id
  clock := a.clock.imp (h _) id
  holder := a.holder.imp (h _) id
  alloc := a.alloc.imp (h _) id
  governor := a.governor.imp (h _) id
  latch := a.latch.imp (h _) id
  tracker := a.tracker.imp (h _) id
  sweep := a.sweep.imp (h _) id
  billing := a.billing.imp (h _) id
  notices := a.notices.imp (h _) id
  mgmt := a.mgmt.imp (h _) id
  now := a.now.imp (h _) id
  freeCount := a.freeCount.imp (h _) id
  pending := a.pending

/-- A fold whose every step changes certain parts changes those parts. -/
theorem Changes.foldl {α : Type} {parts : List Part} {f : State → α → State} (l : List α) (s : State)
    (h : ∀ t a, Changes parts t (f t a)) : Changes parts s (l.foldl f s) := by
  induction l generalizing s with
  | nil => exact .refl _ _
  | cons a l ih => exact (h s a).trans (ih _)

variable (s : State)

/-! ## One part at a time -/

theorem changes_port (x : Port) : Changes [.port] s { s with port := x } := by
  constructor <;> first | rfl | exact .inl (by decide) | exact .inr rfl

theorem changes_tables (x : Tables) : Changes [.tables] s { s with tables := x } := by
  constructor <;> first | rfl | exact .inl (by decide) | exact .inr rfl

theorem changes_records (x : List InputRecord) : Changes [.records] s { s with records := x } := by
  constructor <;> first | rfl | exact .inl (by decide) | exact .inr rfl

theorem changes_clock (x : Clock) : Changes [.clock] s { s with clock := x } := by
  constructor <;> first | rfl | exact .inl (by decide) | exact .inr rfl

theorem changes_holder (x : Holder) : Changes [.holder] s { s with holder := x } := by
  constructor <;> first | rfl | exact .inl (by decide) | exact .inr rfl

theorem changes_alloc (x : Alloc) : Changes [.alloc] s { s with alloc := x } := by
  constructor <;> first | rfl | exact .inl (by decide) | exact .inr rfl

theorem changes_governor (x : Governor) : Changes [.governor] s { s with governor := x } := by
  constructor <;> first | rfl | exact .inl (by decide) | exact .inr rfl

theorem changes_latch (x : Latch) : Changes [.latch] s { s with latch := x } := by
  constructor <;> first | rfl | exact .inl (by decide) | exact .inr rfl

theorem changes_tracker (x : Tracker) : Changes [.tracker] s { s with tracker := x } := by
  constructor <;> first | rfl | exact .inl (by decide) | exact .inr rfl

theorem changes_sweep (x : Sweep) : Changes [.sweep] s { s with sweep := x } := by
  constructor <;> first | rfl | exact .inl (by decide) | exact .inr rfl

theorem changes_billing (x : Billing) : Changes [.billing] s { s with billing := x } := by
  constructor <;> first | rfl | exact .inl (by decide) | exact .inr rfl

theorem changes_now (x : Nat) : Changes [.now] s { s with now := x } := by
  constructor <;> first | rfl | exact .inl (by decide) | exact .inr rfl

theorem changes_freeCount (x : Nat) : Changes [.freeCount] s { s with freeCount := x } := by
  constructor <;> first | rfl | exact .inl (by decide) | exact .inr rfl

theorem changes_mgmt (x : Mgmt) : Changes [.mgmt, .notices] s { s with mgmt := x } := by
  constructor <;> first | rfl | exact .inl (by decide) | exact .inr rfl

theorem notice_changes (k : Notice) (v : Int) : Changes [.notices] s (s.notice k v) := by
  unfold State.notice
  split
  · constructor <;> first | rfl | exact .inl (by decide) | exact .inr rfl
  · exact .refl _ _

/-- One change after another, each within the parts named. -/
theorem Changes.andThen {ps qs parts : List Part} {s t u : State} (a : Changes ps s t) (b : Changes qs t u)
    (hp : ∀ p ∈ ps, p ∈ parts) (hq : ∀ p ∈ qs, p ∈ parts) : Changes parts s u :=
  (a.weaken hp).trans (b.weaken hq)

theorem Changes.ite {parts : List Part} {s t u : State} {c : Prop} [Decidable c] (a : c → Changes parts s t)
    (b : ¬ c → Changes parts s u) : Changes parts s (if c then t else u) := by
  split
  · exact a ‹_›
  · exact b ‹_›

/-! ## The Export Tracker -/

theorem appendSettlement_changes (b : Block) : Changes [.tracker, .notices] s (appendSettlement b s) :=
  (changes_tracker s _).andThen (notice_changes _ _ _) (by decide) (by decide)

theorem closeBlock_changes : Changes [.tracker, .notices] s (closeBlock s) := by
  unfold closeBlock
  split
  · exact .refl _ _
  · exact (changes_tracker s _).andThen (appendSettlement_changes _ _) (by decide) (by decide)

theorem accountSeconds_changes (e : Int) (n : Nat) : Changes [.tracker] s (accountSeconds e n s) :=
  changes_tracker s _

theorem openBlock_changes (n : Nat) (f : BlockFlags) : Changes [.tracker] s (openBlock n f s) :=
  changes_tracker s _

theorem attributePart_changes : Changes [.tracker] s (attributePart s) :=
  (accountSeconds_changes s _ _).trans (changes_tracker _ _)

theorem accountBoundary_changes (n : Nat) : Changes [.tracker, .notices] s (accountBoundary n s) := by
  unfold accountBoundary
  refine Changes.andThen (ps := [.tracker, .notices]) (qs := [.tracker]) ?_ (changes_tracker _ _) (by decide)
    (by decide)
  split
  · exact .refl _ _
  · split
    · exact (accountSeconds_changes _ _ _).weaken (by decide)
    · exact ((((accountSeconds_changes _ _ _).weaken (by decide)).trans (closeBlock_changes _)).trans
        ((openBlock_changes _ _ _).weaken (by decide))).trans ((accountSeconds_changes _ _ _).weaken (by decide))

theorem handTarget_changes (x tol : Nat) : Changes [.tracker] s (handTarget x tol s) := changes_tracker s _

theorem trackerClockStep_changes : Changes [.tracker, .notices] s (trackerClockStep s) := by
  unfold trackerClockStep
  split
  · exact .refl _ _
  · exact ((((attributePart_changes _).trans (changes_tracker _ _)).weaken (by decide)).trans
      (closeBlock_changes _)).trans ((openBlock_changes _ _ _).weaken (by decide))

theorem trackerStart_changes : Changes [.tracker] s (trackerStart s) :=
  (changes_tracker s _).trans (openBlock_changes _ _ _)

theorem trackerStop_changes : Changes [.tracker, .notices] s (trackerStop s) :=
  (((attributePart_changes s).trans (changes_tracker _ _)).weaken (by decide)).trans (closeBlock_changes _)

theorem restartSettlement_changes : Changes [.tracker] s (restartSettlement s) := changes_tracker s _

/-! ## The Trip Latch and the Demand Governor -/

theorem onGrants_changes (f : Nat → Bool → GrantRecord → GrantRecord) : Changes [.governor] s (s.onGrants f) :=
  changes_governor s _

theorem serviceStatus_changes (k : Nat) (v : Int) : Changes [.governor] s (serviceStatus k v s) :=
  .ite (fun _ => onGrants_changes _ _) fun _ => .refl _ _

theorem settleLine_changes : Changes [.governor] s (settleLine s) := by
  unfold settleLine
  split
  · exact .refl _ _
  · exact changes_governor s _

theorem governDemand_changes (f : List Byte) (usable : Bool) :
    Changes [.governor] s (governDemand s f usable).2 := by
  unfold governDemand
  repeat' split
  all_goals first
    | exact .refl _ _
    | exact (changes_governor s _).trans (changes_governor _ _)

theorem tripIfRunning_changes : Changes [.alloc, .governor, .tracker] s (tripIfRunning s) :=
  .ite (fun _ => (((changes_alloc s _).weaken (by decide)).trans ((onGrants_changes _ _).weaken (by decide))).trans
    ((changes_tracker _ _).weaken (by decide))) fun _ => .refl _ _

/-- What raising a trip cause can change. -/
theorem raiseCause_changes (c : Cause) :
    Changes [.alloc, .governor, .latch, .tracker, .notices] s (raiseCause c s) :=
  .ite (fun _ => .refl _ _) fun _ => (((changes_latch s _).weaken (by decide)).trans
    ((notice_changes _ _ _).weaken (by decide))).trans ((tripIfRunning_changes _).weaken (by decide))

theorem breakerStatus_changes (v : Int) : Changes [.latch, .tracker] s (breakerStatus v s) := by
  unfold breakerStatus
  repeat' split
  · exact .refl _ _
  · exact (changes_latch s _).weaken (by decide)
  · exact (changes_latch s _).andThen (changes_tracker _ _) (by decide) (by decide)
  · exact (changes_latch s _).weaken (by decide)

theorem safetyStatus_changes (v : Int) :
    Changes [.alloc, .governor, .latch, .tracker, .notices] s (safetyStatus v s) :=
  .ite (fun _ => raiseCause_changes _ _) fun _ => .refl _ _

/-! ## The Holder Monitor and the Input Registry -/

theorem startBlow_changes : Changes [.holder] s (startBlow s) := changes_holder s _

theorem endBlow_changes (n : Nat) (e : BlowEnd) : Changes [.holder] s (endBlow n e s) :=
  (changes_holder s _).trans (changes_holder _ _)

theorem blowStatus_changes (v : Int) : Changes [.holder] s (blowStatus v s) := by
  unfold blowStatus
  dsimp only
  repeat' split
  all_goals first
    | exact .refl _ _
    | exact startBlow_changes _
    | exact endBlow_changes _ _ _
    | exact changes_holder s _

/-- What an evaluated level can change. -/
theorem evaluateLevel_changes (h : Nat) (v : Int) :
    Changes [.holder, .alloc, .governor, .latch, .tracker, .notices] s (evaluateLevel h v s) := by
  unfold evaluateLevel
  dsimp only
  repeat' split
  · exact (changes_holder s _).weaken (by decide)
  · exact (((changes_holder s _).weaken (by decide)).trans ((notice_changes _ _ _).weaken (by decide))).trans
      ((raiseCause_changes _ _).weaken (by decide))
  · exact (changes_holder s _).andThen (notice_changes _ _ _) (by decide) (by decide)

/-- What a status handed on can change. -/
theorem handStatus_changes (r : Nat) (v : Int) :
    Changes [.holder, .alloc, .governor, .latch, .tracker, .notices] s (handStatus r v s) := by
  unfold handStatus
  repeat' split
  · exact (blowStatus_changes _ _).weaken (by decide)
  · exact (breakerStatus_changes _ _).weaken (by decide)
  · exact (safetyStatus_changes _ _).weaken (by decide)
  · exact (serviceStatus_changes _ _ _).weaken (by decide)
  · exact .refl _ _

/-- The parts that what the Input Registry takes and hands on can change. -/
def inputParts : List Part := [.records, .holder, .alloc, .governor, .latch, .tracker, .notices]

theorem setRecord_changes (r : Nat) (f : InputRecord → InputRecord) : Changes inputParts s (s.setRecord r f) :=
  (changes_records s _).weaken (by decide)

theorem substitute_changes (r : Nat) : Changes inputParts s (substitute r s) := by
  have step : ∀ t : State, Changes inputParts s t →
      Changes inputParts s (if isLevelRecord r then evaluateLevel (r - 6) (s.inputSetting r).substitute t
        else if isStatusRecord r ∧ (s.record r).value ≠ (s.inputSetting r).substitute then
          handStatus r (s.inputSetting r).substitute t else t) := fun t ht =>
    .ite (fun _ => ht.trans ((evaluateLevel_changes _ _ _).weaken (by decide))) fun _ =>
      .ite (fun _ => ht.trans ((handStatus_changes _ _ _).weaken (by decide))) fun _ => ht
  exact step _ (.ite (fun _ => setRecord_changes _ _ _) fun _ =>
    (setRecord_changes _ _ _).trans ((notice_changes _ _ _).weaken (by decide)))

theorem judgeRecord_changes (start r : Nat) : Changes inputParts s (judgeRecord start s r) := by
  unfold judgeRecord
  repeat' split
  all_goals first
    | exact .refl _ _
    | exact substitute_changes _ _
    | exact setRecord_changes _ _ _

/-- What the judgement of the records at a boundary can change. -/
theorem judgeAll_changes (start : Nat) : Changes inputParts s (judgeAll start s) :=
  Changes.foldl _ _ fun t r => judgeRecord_changes t start r

theorem judgeLevel_changes (r : Nat) : Changes inputParts s (judgeLevel s r) :=
  .ite (fun _ => .refl _ _) fun _ => .ite (fun _ => substitute_changes _ _) fun _ => .refl _ _

/-- What an arrival can change. -/
theorem arrivalAt_changes (r : Nat) (v : Int) : Changes inputParts s (arrivalAt r v s) := by
  refine .ite (fun _ => ?_) fun _ => ?_
  · unfold statusArrival
    have handed : ∀ t u, Changes inputParts s t → Changes inputParts s (handStatus r u t) := fun t u ht =>
      ht.trans ((handStatus_changes t r u).weaken (by decide))
    exact .ite (fun _ => .ite (fun _ => setRecord_changes _ _ _) fun _ =>
      .ite (fun _ => handed _ _ (setRecord_changes _ _ _)) fun _ => setRecord_changes _ _ _) fun _ => .refl _ _
  · have level : ∀ t : State, Changes inputParts s t → Changes inputParts s (judgeLevel (judgeLevel t 6) 7) :=
      fun t ht => (ht.trans (judgeLevel_changes _ _)).trans (judgeLevel_changes _ _)
    have evaluated : ∀ t h u, Changes inputParts s t → Changes inputParts s (evaluateLevel h u t) := fun t h u ht =>
      ht.trans ((evaluateLevel_changes t h u).weaken (by decide))
    exact .ite (fun _ => level _ (evaluated _ _ _ (setRecord_changes _ _ _))) fun _ => setRecord_changes _ _ _

/-- What a SAMPLE's entries can change. -/
theorem takeSample_changes (entries : List SampleEntry) (role : Role) (i : Nat) :
    Changes inputParts s (takeSample entries role i s) :=
  Changes.foldl _ _ fun t r => by
    split
    · exact arrivalAt_changes _ _ _
    · exact .refl _ _

theorem discardCandidates_changes (role : Role) (i : Nat) : Changes [.records] s (discardCandidates role i s) :=
  Changes.foldl _ _ fun t _ => .ite (fun _ => changes_records t _) fun _ => .refl _ _

/-! ## The Works Clock -/

/-- What the judgement of a TIME frame can change. -/
theorem judgeTime_changes (p : List Byte) : Changes [.clock, .tables, .tracker, .notices] s (judgeTime p s) := by
  unfold judgeTime
  split
  · refine .ite (fun _ => ?_) fun _ => (notice_changes _ _ _).weaken (by decide)
    refine .ite (fun _ => (changes_clock s _).weaken (by decide)) fun _ => ?_
    have roll : ∀ (n : Nat) (c : Prop) [Decidable c] (t : State),
        Changes [.clock, .tables, .tracker, .notices] t (if c then rollSchedule n t else t) := fun n c _ t =>
      .ite (fun _ => (changes_tables t _).weaken (by decide)) fun _ => .refl _ _
    exact .ite (fun _ => (((changes_clock s _).weaken (by decide)).trans (roll _ _ _)).trans
      ((trackerClockStep_changes _).weaken (by decide))) fun _ =>
        ((changes_clock s _).weaken (by decide)).trans (roll _ _ _)
  · exact (notice_changes _ _ _).weaken (by decide)

/-! ## The Billing Unit and the Meter Sweep Engine -/

theorem takeReading_changes (r : Reading) : Changes [.billing] s (takeReading r s) := by
  unfold takeReading
  dsimp only
  repeat' split
  all_goals first | exact .refl _ _ | exact changes_billing s _

theorem billMissed_changes (a : Nat) : Changes [.billing, .notices] s (billMissed a s) :=
  .ite (fun _ => (changes_billing s _).andThen (notice_changes _ _ _) (by decide) (by decide)) fun _ =>
    (changes_billing s _).weaken (by decide)

theorem billFault_changes (a : Nat) : Changes [.billing] s (billFault a s) := changes_billing s _

theorem billRebinding_changes (m : Nat) : Changes [.billing] s (billRebinding m s) := changes_billing s _

theorem appendBilling_changes (b : BillingRecord) : Changes [.billing, .notices] s (appendBilling s b) :=
  .ite (fun _ => (changes_billing s _).andThen (notice_changes _ _ _) (by decide) (by decide)) fun _ =>
    (changes_billing s _).weaken (by decide)

/-- What a taken close can change. -/
theorem takeClose_changes : Changes [.billing, .notices] s (takeClose s) :=
  (Changes.foldl _ _ fun t b => appendBilling_changes t b).trans ((changes_billing _ _).weaken (by decide))

theorem onSweep_changes (f : Sweep → Sweep) : Changes [.sweep] s (s.onSweep f) := changes_sweep s _

theorem settleSweep_changes : Changes [.sweep, .notices] s (settleSweep s) :=
  (notice_changes _ _ _).andThen (onSweep_changes _ _) (by decide) (by decide)

/-- What the start of a sweep can change. -/
theorem startSweepOn_changes (c : SweepCopy) : Changes [.sweep, .notices] s (startSweepOn c s) :=
  .ite (fun _ => (((onSweep_changes s _).trans (onSweep_changes _ _)).weaken (by decide)).trans
    (settleSweep_changes _)) fun _ => (onSweep_changes s _).weaken (by decide)

theorem finishSweep_changes : Changes [.sweep, .notices] s (finishSweep s) := by
  refine .ite (fun _ => ?_) fun _ => settleSweep_changes _
  have begun : ∀ n : Int, Changes [.sweep, .notices] s (beginSweep s.sweep.copy (s.notice .sweepDone n)) := fun _ =>
    (notice_changes _ _ _).andThen (onSweep_changes _ _) (by decide) (by decide)
  refine .ite (fun _ => ?_) fun _ => (begun _).trans ((notice_changes _ _ _).weaken (by decide))
  exact (((begun _).trans ((notice_changes _ _ _).weaken (by decide))).trans
    ((onSweep_changes _ _).weaken (by decide))).trans (settleSweep_changes _)

/-- What the check for the end of a sweep can change. -/
theorem checkSweepEnd_changes : Changes [.sweep, .notices] s (checkSweepEnd s) :=
  .ite (fun _ => .ite (fun _ => finishSweep_changes _) fun _ =>
    .ite (fun _ => (onSweep_changes _ _).weaken (by decide)) fun _ => .refl _ _) fun _ => .refl _ _

theorem placePoll_changes (a : Nat) (st : Byte) : Changes [.port, .sweep] s (placePoll a st s) :=
  (changes_port s _).andThen (onSweep_changes _ _) (by decide) (by decide)

theorem missedOutcome_changes (a : Nat) : Changes [.sweep, .billing, .notices] s (missedOutcome a s) :=
  (onSweep_changes _ _).andThen (billMissed_changes _ _) (by decide) (by decide)

/-- What an account visit can change. -/
theorem visitAccount_changes : Changes [.port, .sweep, .billing, .notices] s (visitAccount s) := by
  unfold visitAccount
  dsimp only
  repeat' split
  · exact (((onSweep_changes _ _).weaken (by decide)).trans ((missedOutcome_changes _ _).weaken (by decide))).trans
      ((checkSweepEnd_changes _).weaken (by decide))
  · exact (((onSweep_changes _ _).trans (onSweep_changes _ _)).weaken (by decide)).trans
      ((placePoll_changes _ _ _).weaken (by decide))
  · exact .refl _ _
  · exact (onSweep_changes _ _).andThen (checkSweepEnd_changes _) (by decide) (by decide)
  · exact .refl _ _

theorem placeRetry_changes : Changes [.port, .sweep] s (placeRetry s) := by
  unfold placeRetry
  repeat' split
  · exact .refl _ _
  · exact (onSweep_changes _ _).weaken (by decide)
  · exact (onSweep_changes _ _).andThen (placePoll_changes _ _ _) (by decide) (by decide)
  · exact .refl _ _

theorem pollLeft_changes (q : Byte) : Changes [.sweep] s (pollLeft q s) := by
  unfold pollLeft
  repeat' split
  · exact .refl _ _
  · exact onSweep_changes _ _
  · exact (onSweep_changes _ _).trans (onSweep_changes _ _)

/-- What a meter's reply can change: of the port, its counters alone. -/
theorem meterReply_changes (st q : Byte) (es : List SampleEntry) :
    Changes [.port, .sweep, .billing, .notices] s (meterReply st q es s) := by
  unfold meterReply
  dsimp only
  split
  · exact (changes_port s _).weaken (by decide)
  · refine Changes.trans ?_ ((checkSweepEnd_changes _).weaken (by decide))
    split
    · exact (((onSweep_changes _ _).trans (onSweep_changes _ _)).weaken (by decide)).trans
        ((takeReading_changes _ _).weaken (by decide))
    · exact (((onSweep_changes _ _).trans (onSweep_changes _ _)).weaken (by decide)).trans
        ((billFault_changes _ _).weaken (by decide))

/-- What a reply timer's expiry can change. -/
theorem replyTimeout_changes (a : Nat) : Changes [.now, .sweep, .billing, .notices] s (replyTimeout a s) := by
  unfold replyTimeout
  split
  · exact .refl _ _
  · split
    · exact .refl _ _
    · rename_i departed _
      refine Changes.trans (t := s.advanceTo (departed + replyTime)) ((changes_now s _).weaken (by decide)) ?_
      dsimp only
      repeat' split
      · exact (onSweep_changes _ _).weaken (by decide)
      · exact (((onSweep_changes _ _).weaken (by decide)).trans ((missedOutcome_changes _ _).weaken (by decide))).trans
          ((checkSweepEnd_changes _).weaken (by decide))
      · exact (onSweep_changes _ _).andThen (checkSweepEnd_changes _) (by decide) (by decide)

theorem intervalEffect_changes : Changes [.now, .sweep, .notices] s (intervalEffect s) := by
  unfold intervalEffect
  repeat' split
  · exact .refl _ _
  · exact (changes_now s _).andThen (startSweepOn_changes _ _) (by decide) (by decide)
  · exact (changes_now s _).andThen (onSweep_changes _ _) (by decide) (by decide)
  · exact .refl _ _

theorem stopSweepEffect_changes : Changes [.sweep, .notices] s (stopSweepEffect s) := by
  unfold stopSweepEffect
  repeat' split
  · exact .refl _ _
  · exact (onSweep_changes _ _).weaken (by decide)
  · exact (onSweep_changes _ _).andThen (checkSweepEnd_changes _) (by decide) (by decide)
  · exact (onSweep_changes _ _).weaken (by decide)

theorem cancelEntry_changes (a : Nat) : Changes [.sweep] s (cancelEntry a s) :=
  (onSweep_changes _ _).trans (onSweep_changes _ _)

theorem sweepRebinding_changes (m : Nat) : Changes [.sweep] s (sweepRebinding m s) :=
  Changes.foldl _ _ fun t a => cancelEntry_changes t a

/-! ## Writes that act on other blocks -/

/-- What a taken write of T0 tells the other blocks can change. -/
theorem bindingReports_changes (old new : List (Option Binding)) :
    Changes [.records, .sweep, .billing, .notices] s (bindingReports old new s) := by
  unfold bindingReports
  refine Changes.trans (Changes.trans (Changes.foldl _ _ fun t o => ?_) (Changes.foldl _ _ fun t m => ?_))
    ((checkSweepEnd_changes _).weaken (by decide))
  · exact .ite (fun _ => (discardCandidates_changes _ _ _).weaken (by decide)) fun _ => .refl _ _
  · exact (sweepRebinding_changes _ _).andThen (billRebinding_changes _ _) (by decide) (by decide)

/-- What a taken write of T12 can change besides the table. -/
theorem changeAccounts_changes (old new : List AccountSetting) :
    Changes [.sweep, .billing, .notices] s (changeAccounts old new s) :=
  (((changes_billing s _).weaken (by decide)).trans
    (Changes.foldl _ _ fun t a => (cancelEntry_changes t a).weaken (by decide))).trans
    ((checkSweepEnd_changes _).weaken (by decide))

/-! ## The allocation -/

theorem countOrigin_changes (n : Nat) : Changes [.alloc] s (countOrigin n s) := changes_alloc s _

/-- What a boundary can change. -/
theorem boundaryEffect_changes : Changes (.now :: inputParts) s (boundaryEffect s) := by
  unfold boundaryEffect
  split
  · rename_i p _ _
    refine Changes.trans (t := accountPeriod p (s.advanceTo (p.start + p.length * second))) ?_ ?_
    · exact ((((changes_now s _).weaken (by decide)).trans ((judgeAll_changes _ _).weaken (by decide))).trans
        ((countOrigin_changes _ _).weaken (by decide))).trans ((accountBoundary_changes _ _).weaken (by decide))
    · exact (handTarget_changes _ _ _).andThen (changes_alloc _ _) (by decide) (by decide)
  · exact .refl _ _

theorem completionEffect_changes : Changes [.alloc, .governor] s (completionEffect s) := by
  unfold completionEffect
  split
  · exact .refl _ _
  · exact (changes_alloc s _).andThen (onGrants_changes _ _) (by decide) (by decide)

theorem startEffect_changes : Changes [.alloc, .governor, .tracker] s (startEffect s) :=
  (((changes_alloc s _).weaken (by decide)).trans ((onGrants_changes _ _).weaken (by decide))).trans
    ((trackerStart_changes _).weaken (by decide))

theorem stopEffect_changes : Changes [.alloc, .tracker, .notices] s (stopEffect s) :=
  (trackerStop_changes s).andThen (changes_alloc _ _) (by decide) (by decide)

theorem resumeEffect_changes : Changes [.alloc, .latch, .notices] s (resumeEffect s) :=
  .ite (fun _ => (((changes_latch s _).weaken (by decide)).trans ((notice_changes _ _ _).weaken (by decide))).trans
    ((changes_alloc _ _).weaken (by decide))) fun _ =>
      (changes_latch s _).andThen (notice_changes _ _ _) (by decide) (by decide)

end Sys2Proof.Machine
end

