-- ==== Sys2Proof/Laws/Service.lean ====
section
/-! SUPPORT. What a command does in and out of reset, what a line does, and what the service of the oldest request
answers. -/

namespace Sys2Proof.Machine

/-! ## Commands in and out of reset -/

theorem act_running {s : State} (h : s.outOfReset = true) (f : State → State) : act s f = .next (f s) := by
  simp [act, h]

theorem act_held {s : State} (h : s.outOfReset = false) (f : State → State) : act s f = .next s := by
  simp [act, h]

/-- A line that a flag opened is judged. -/
theorem receive_opened {s : State} (h : s.port.flagSeen = true) (line : List Byte) :
    receive line s = judgeLine line s := by
  simp [receive, h]

/-- What the first flag after a reset ends is lost. -/
theorem receive_unopened {s : State} (h : s.port.flagSeen = false) (line : List Byte) :
    receive line s = { s with port := { s.port with flagSeen := true } } := by
  simp [receive, h]

/-! ## The service of a request (R173, R175) -/

/-- The part with its oldest request taken out. -/
def State.withRequests (s : State) (rest : List Request) : State :=
  { s with mgmt := { s.mgmt with queue := rest } }

variable {s : State} {q : Request} {rest : List Request} {code : Nat} {operands : List Byte}

/-- A request that can be served answers what its judgement gives. -/
theorem serve_waiting (h : Waiting s q rest code operands) (owner : Request → List Byte → State → Answer) :
    serve (commandOf q.payload) owner s =
      let a := judgeRequest q owner (s.withRequests rest)
      a.state.place (replyTo q (commandOf q.payload == .reset && a.status == .done) a) := by
  have hs : canServe s = true := by simp [canServe, h.slot, h.serving]
  simp [serve, h.queued, hs, State.withRequests]

/-- A reply that is not the one of a RESET, as `answered` writes it. -/
theorem place_reply {a : Answer} (h : Waiting s q rest code operands) (hq : a.state.mgmt.queue = rest) :
    a.state.place (replyTo q false a) = answered q rest code a.status.code a.data a.state := by
  have hp : q.payload.headD 0 = BitVec.ofNat 8 code := by simp [h.payload]
  subst hq
  simp [answered, State.place, replyTo, h.payload, kindReply]

/-- R173, R175: a request that its requester's class permits, and that is no RESET, is answered as its owner does. -/
theorem serve_owner (h : Waiting s q rest code operands) {command : Instr} (row : commandOf q.payload = command)
    (known : command ≠ .badRequestCode) (noReset : command ≠ .reset)
    (may : permitted q.payload (s.classOf q.station) = true) {owner : Request → List Byte → State → Answer}
    {a : Answer} (answer : owner q operands (s.withRequests rest) = a) (hq : a.state.mgmt.queue = rest) :
    act s (serve command owner) = .next (answered q rest code a.status.code a.data a.state) := by
  rw [act_running h.outOfReset, ← row, serve_waiting h]
  have hj : judgeRequest q owner (s.withRequests rest) = a := by
    have hc : (s.withRequests rest).classOf q.station = s.classOf q.station := rfl
    simp only [judgeRequest, row, known, if_false, hc, may, if_true]
    simpa [h.payload] using answer
  simp only [hj, row, beq_eq_false_iff_ne.2 noReset, Bool.false_and, place_reply h hq]

/-- R175: a requester whose class does not permit the request is answered REFUSED-CLASS. -/
theorem serve_refused (h : Waiting s q rest code operands) {command : Instr} (row : commandOf q.payload = command)
    (known : command ≠ .badRequestCode) (may : permitted q.payload (s.classOf q.station) = false)
    (owner : Request → List Byte → State → Answer) :
    act s (serve command owner) = .next (answered q rest code 1 [] s) := by
  rw [act_running h.outOfReset, ← row, serve_waiting h]
  have hj : judgeRequest q owner (s.withRequests rest) = refuse .refusedClass (s.withRequests rest) := by
    have hc : (s.withRequests rest).classOf q.station = s.classOf q.station := rfl
    simp [judgeRequest, row, known, hc, may]
  have hb : (refuse .refusedClass (s.withRequests rest)).status = .refusedClass := rfl
  simp only [hj, hb, show (Status.refusedClass == Status.done) = false from rfl, Bool.and_false]
  rw [place_reply h rfl]
  rfl

/-- R173: with no free reply slot, or behind a RESET, the oldest request waits. -/
theorem serve_waits (h : canServe s = false) (command : Instr) (owner : Request → List Byte → State → Answer) :
    serve command owner s = s := by
  unfold serve
  split
  · rfl
  · simp [h]

end Sys2Proof.Machine
end

