-- ==== Sys2Proof/Laws/Stations.lean ====
section
/-! SUPPORT. The management lockout guard of the Station Table (R24) says what the statements say of it. -/

namespace Sys2Proof.Machine

variable {old new : List (Option Binding)}

/-- R24: the criterion. -/
theorem lockoutOk_iff (bs : List Binding) : lockoutOk bs = true ↔ engineerLeft bs := by
  unfold lockoutOk engineerLeft admittedEngineer
  constructor
  · intro h ⟨b, hb, hc⟩
    simp only [Bool.or_eq_true, List.all_eq_true, List.any_eq_true, Option.isNone_iff_eq_none] at h
    obtain h | ⟨x, hx, hy⟩ := h
    · exact absurd (h b hb) hc
    · exact ⟨x, hx, by simpa using hy⟩
  · intro h
    by_cases hm : ∃ b ∈ bs, b.role.mgmtClass ≠ none
    · obtain ⟨x, hx, hr, hi⟩ := h hm
      simp only [Bool.or_eq_true, List.any_eq_true]
      exact .inr ⟨x, hx, by simp [hr, hi]⟩
    · simp only [Bool.or_eq_true, List.all_eq_true, Option.isNone_iff_eq_none]
      exact .inl fun b hb => by_contra fun hc => hm ⟨b, hb, hc⟩

theorem admittedEngineer_iff (b : Binding) : admittedEngineer b = true ↔ b.role = .mgmtEngineer ∧ b.ignore = false := by
  simp [admittedEngineer]

theorem any_engineerMoved :
    ((old.zip new).any fun p => engineerMoved p.1 p.2) = true ↔
      ∃ (i : Nat) (a b : Binding), old[i]? = some (some a) ∧ new[i]? = some (some b) ∧
        admittedEngineer a = true ∧ admittedEngineer b = true ∧ a.station ≠ b.station := by
  simp only [List.any_eq_true, List.mem_iff_getElem?, List.getElem?_zip_eq_some, Prod.exists]
  constructor
  · rintro ⟨x, y, ⟨i, hx, hy⟩, h⟩
    match x, y, h with
    | some a, some b, h =>
      simp only [engineerMoved, Bool.and_eq_true, bne_iff_ne] at h
      exact ⟨i, a, b, hx, hy, h.1.1, h.1.2, h.2⟩
  · rintro ⟨i, a, b, hx, hy, ha, hb, hs⟩
    exact ⟨some a, some b, ⟨i, hx, hy⟩, by simp [engineerMoved, ha, hb, hs]⟩

/-- R24: the third bullet (log entry 32). -/
theorem lastEngineerMoved_iff :
    lastEngineerMoved old new = true ↔ lastEngineerMove old new := by
  have hf : ∀ l : List Binding, (l.filter fun b => decide (b.role = .mgmtEngineer ∧ b.ignore = false)) =
      l.filter admittedEngineer := fun l => by
    congr 1; funext b; rw [Bool.eq_iff_iff, decide_eq_true_iff, admittedEngineer_iff]
  have mem : ∀ {l : List (Option Binding)} {i : Nat} {a : Binding}, l[i]? = some (some a) → a ∈ l.filterMap id :=
    fun h => List.mem_filterMap.mpr ⟨_, List.mem_of_getElem? h, rfl⟩
  simp only [lastEngineerMoved, lastEngineerMove, Bool.and_eq_true, beq_iff_eq, any_engineerMoved, hf,
    List.countP_eq_length_filter, and_assoc]
  refine and_congr_right fun _ => and_congr_right fun _ => and_congr ?_ ?_
  · simp only [List.any_eq_true, Bool.and_eq_true, Option.isSome_iff_ne_none, Bool.not_eq_true',
      List.mem_filter, not_and, Bool.not_eq_true]
    constructor
    · rintro ⟨b, hb, hc, he⟩; exact ⟨b, hb, hc, fun _ => he⟩
    · rintro ⟨b, hb, hc, he⟩; exact ⟨b, hb, hc, he hb⟩
  · simp only [List.mem_filter]
    constructor
    · rintro ⟨i, a, b, hx, hy, ha, hb, hs⟩; exact ⟨i, a, b, hx, hy, ⟨mem hx, ha⟩, ⟨mem hy, hb⟩, hs⟩
    · rintro ⟨i, a, b, hx, hy, ha, hb, hs⟩; exact ⟨i, a, b, hx, hy, ha.2, hb.2, hs⟩

/-- R24: the whole guard over a write. -/
theorem guardOk_iff :
    guardOk old new = true ↔ ¬ (¬ engineerLeft (new.filterMap id) ∨ lastEngineerMove old new) := by
  rw [guardOk, Bool.and_eq_true, lockoutOk_iff, Bool.not_eq_true', ← Bool.not_eq_true, lastEngineerMoved_iff, not_or,
    Classical.not_not]

end Sys2Proof.Machine
end

