-- ==== Sys2Proof/Laws/Writes.lean ====
section
/-! SUPPORT. How the operands of a WRITE come back as the fields they were written from, and what `readEntries`
answers. -/

namespace Sys2Proof.Machine

/-! ## Fields -/

theorem fieldBytes_length {ws fs : List Nat} (h : fieldsFit ws fs) : (fieldBytes ws fs).length = ws.sum := by
  induction h with
  | nil => rfl
  | cons _ _ ih =>
    simp only [fieldBytes, List.zip_cons_cons, List.flatMap_cons, List.length_append, be_length, List.sum_cons]
    rw [show ((List.zip _ _).flatMap fun p : Nat × Nat => be p.1 p.2).length = _ from ih]

/-- R176: fields that were written come back. -/
theorem splitFields_fieldBytes {ws fs : List Nat} (h : fieldsFit ws fs) (more : List Byte) :
    splitFields ws (fieldBytes ws fs ++ more) = fs := by
  induction h with
  | nil => rfl
  | @cons w v ws fs hv _ ih =>
    have e : fieldBytes (w :: ws) (v :: fs) ++ more = be w v ++ (fieldBytes ws fs ++ more) := by
      simp [fieldBytes]
    rw [e, splitFields]
    have t : (be w v ++ (fieldBytes ws fs ++ more)).take w = be w v := by
      conv_lhs => rw [← be_length w v]
      simp
    have d : (be w v ++ (fieldBytes ws fs ++ more)).drop w = fieldBytes ws fs ++ more := by
      conv_lhs => rw [← be_length w v]
      simp
    rw [t, d, unbe_be, Nat.mod_eq_of_lt hv, ih]

/-- Entries laid end to end come apart again. -/
theorem chunks_flatten {size : Nat} {es : List (List Byte)} (h : ∀ e ∈ es, e.length = size) :
    chunks size es.length es.flatten = es := by
  induction es with
  | nil => rfl
  | cons e es ih =>
    have he : e.length = size := h e (by simp)
    subst he
    simp only [List.length_cons, List.flatten_cons, chunks, List.take_left', List.drop_left']
    rw [ih fun x hx => h x (by simp [hx])]

theorem flatten_length {size : Nat} {es : List (List Byte)} (h : ∀ e ∈ es, e.length = size) :
    es.flatten.length = es.length * size := by
  induction es with
  | nil => simp
  | cons e es ih =>
    simp only [List.flatten_cons, List.length_append, List.length_cons, h e (by simp),
      ih fun x hx => h x (by simp [hx])]
    ring

/-! ## The check of a whole request -/

/-- Every entry passes its check: the entries read are those checked. -/
theorem readEntries_some {α : Type} {ws : List Nat} {entryOf : Nat → List Nat → Option α} {index : Nat}
    {fs : List (List Nat)} {new : List α} (fit : ∀ f ∈ fs, fieldsFit ws f) (len : new.length = fs.length)
    (ok : ∀ (i : Nat) (f : List Nat) (a : α), fs[i]? = some f → new[i]? = some a →
      entryOf (index + i) f = some a) :
    readEntries ws entryOf index (fs.map (fieldBytes ws)) = some new := by
  induction fs generalizing index new with
  | nil => cases new <;> simp_all [readEntries]
  | cons f fs ih =>
    cases new with
    | nil => simp at len
    | cons a new =>
      have h0 : entryOf index f = some a := by simpa using ok 0 f a (by simp) (by simp)
      have h1 := splitFields_fieldBytes (fit f (by simp)) []
      rw [List.append_nil] at h1
      have h2 : readEntries ws entryOf (index + 1) (fs.map (fieldBytes ws)) = some new :=
        ih (fun x hx => fit x (by simp [hx])) (by simpa using len) fun i g b hg hb => by
          have := ok (i + 1) g b (by simpa using hg) (by simpa using hb)
          rwa [show index + (i + 1) = index + 1 + i by omega] at this
      simp [readEntries, h1, h0, h2]

/-- An entry that fails its check refuses the request whole. -/
theorem readEntries_none {α : Type} {ws : List Nat} {entryOf : Nat → List Nat → Option α} {index : Nat}
    {fs : List (List Nat)} (fit : ∀ f ∈ fs, fieldsFit ws f)
    (bad : ∃ (i : Nat) (f : List Nat), fs[i]? = some f ∧ entryOf (index + i) f = none) :
    readEntries ws entryOf index (fs.map (fieldBytes ws)) = none := by
  induction fs generalizing index with
  | nil => obtain ⟨i, f, h, _⟩ := bad; simp at h
  | cons f fs ih =>
    have h1 := splitFields_fieldBytes (fit f (by simp)) []
    rw [List.append_nil] at h1
    obtain ⟨i, g, hg, hn⟩ := bad
    cases i with
    | zero =>
      simp only [List.getElem?_cons_zero, Option.some.injEq] at hg
      subst hg
      simp only [Nat.add_zero] at hn
      simp [readEntries, h1, hn]
    | succ i =>
      have h2 : readEntries ws entryOf (index + 1) (fs.map (fieldBytes ws)) = none :=
        ih (fun x hx => fit x (by simp [hx])) ⟨i, g, by simpa using hg, by
          rwa [show index + 1 + i = index + (i + 1) by omega]⟩
      simp only [List.map_cons, readEntries, h1, h2]
      cases entryOf index f <;> rfl

/-! ## The operands of a WRITE -/

theorem writeOperands_length (table index : Nat) (es : List (List Byte)) :
    (writeOperands table index es).length = 3 + es.flatten.length := by
  simp [writeOperands]; omega

theorem writeTable_operands {table : Nat} (index : Nat) (es : List (List Byte)) (h : table < 256) :
    writeTable (writeOperands table index es) = some table := by
  simp [writeTable, writeOperands, be, Nat.mod_eq_of_lt h]

theorem writeIndex_operands (table : Nat) {index : Nat} (es : List (List Byte)) (h : index < 65536) :
    writeIndex (writeOperands table index es) = index := by
  have : (((writeOperands table index es).drop 1).take (writePrefix - 1)) = be 2 index := by
    simp [writeOperands, be, writePrefix]
  rw [writeIndex, this, unbe_be]
  exact Nat.mod_eq_of_lt (by simpa using h)

theorem writeEntries_operands (table index : Nat) (es : List (List Byte)) :
    (writeOperands table index es).drop writePrefix = es.flatten := by
  simp [writeOperands, be, writePrefix]

/-- R179: a WRITE whose operands are whole entries of the table's form is judged by its place, then by its owner. -/
theorem writeRequest_entries {table index : Nat} {ws : List Nat} {fs : List (List Nat)} (q : Request) (s : State)
    (own : Nat → List (List Byte) → State → Answer) (widths : tableWidths table = some ws) (pos : 0 < ws.sum)
    (some : fs ≠ []) (fit : ∀ f ∈ fs, fieldsFit ws f) (small : index < 65536) :
    writeRequest table own q (writeOperands table index (fs.map (fieldBytes ws))) s =
      if tableLength table < index + fs.length then refuse .outOfRange s
      else own index (fs.map (fieldBytes ws)) s := by
  have size : (entrySize table).getD 1 = ws.sum := by simp [entrySize, widths]
  have each : ∀ e ∈ fs.map (fieldBytes ws), e.length = ws.sum := by
    intro e he
    obtain ⟨f, hf, rfl⟩ := List.mem_map.1 he
    exact fieldBytes_length (fit f hf)
  have len := writeOperands_length table index (fs.map (fieldBytes ws))
  rw [flatten_length each, List.length_map] at len
  have npos : 0 < fs.length := List.length_pos_iff.2 some
  have le : ws.sum ≤ fs.length * ws.sum := Nat.le_mul_of_pos_left _ npos
  have count : ((writeOperands table index (fs.map (fieldBytes ws))).length - writePrefix) / ws.sum = fs.length := by
    rw [len, writePrefix, Nat.add_sub_cancel_left, Nat.mul_div_cancel _ pos]
  have whole : ((writeOperands table index (fs.map (fieldBytes ws))).length - writePrefix) % ws.sum = 0 := by
    rw [len, writePrefix, Nat.add_sub_cancel_left, Nat.mul_mod_left]
  have enough : ¬ (writeOperands table index (fs.map (fieldBytes ws))).length < writePrefix + ws.sum := by
    rw [len, writePrefix]; omega
  have cut := chunks_flatten each
  rw [List.length_map] at cut
  simp only [writeRequest, size, count, whole, enough, ne_eq, not_true_eq_false, or_self, if_false,
    writeIndex_operands table _ small, writeEntries_operands, cut]

end Sys2Proof.Machine
end

