-- ==== Sys2Proof/WellFormed.lean ====
section
/-! DEFINITION. The operands a command can have: what stands on a line between two flags holds no flag
(R1), and an account is one of 96 (R157). Every strap reading and every sequence is a byte already. -/

namespace Sys2Proof

/-- R1, R2: the bytes between two flags hold no flag byte. -/
def lineHasNoFlag (line : List Byte) : Bool := line.all (fun b => b != 0xA5#8)

/-- R157: accounts are numbered 0 to 95. -/
def isAccount (a : Nat) : Bool := decide (a < 96)

/-- Every operand of the command lies in its range. -/
def Instr.wellFormed : Instr → Bool
  | .powerOnReset _ => true
  | .resetInputAsserted => true
  | .resetInputReleased _ => true
  | .strapsValid _ => true
  | .frameReceived _ line => lineHasNoFlag line
  | .transitFrameDeparts => true
  | .transitFrameLeft => true
  | .insertedFrameDeparts => true
  | .insertedFrameLeft => true
  | .lapTimerExpiry _ => true
  | .probeTimerExpiry => true
  | .clockSecondCount => true
  | .adoptionIntervalExpiry => true
  | .blowLimitExpiry => true
  | .tailExpiry => true
  | .periodBoundary => true
  | .computationCompletion => true
  | .replyTimerExpiry account => isAccount account
  | .intervalTimerExpiry => true
  | .accountVisit => true
  | .retryPlacement => true
  | .noticeIntervalExpiry => true
  | .noticeFrameBuilt => true
  | .badRequestCode => true
  | .read => true
  | .readOn => true
  | .writeT0 => true
  | .writeT1 => true
  | .writeT2 => true
  | .writeT3 => true
  | .writeT4 => true
  | .writeT5 => true
  | .writeT6 => true
  | .writeT7 => true
  | .writeT8 => true
  | .writeT9 => true
  | .writeT10 => true
  | .writeT11 => true
  | .writeT12 => true
  | .writeT13 => true
  | .writeT14 => true
  | .exchange => true
  | .readStats => true
  | .readStatsClear => true
  | .restartSweep => true
  | .restartSettlementQueue => true
  | .restartStatistics => true
  | .reset => true
  | .resetRequestEffect _ => true
  | .startAllocation => true
  | .stopAllocation => true
  | .setMode => true
  | .trip => true
  | .resume => true
  | .startSweep => true
  | .stopSweep => true
  | .closePeriod => true
  | .fetchBilling => true
  | .releaseBilling => true
  | .fetchSettlement => true
  | .releaseSettlement => true

end Sys2Proof
end

