-- ==== Sys2Proof/Tests/Slice0.lean ====
section
/-! SUPPORT. Small tests. The expected values of the worked cases are the spec's own figures; each is one operation
or one step. The second half shows, for every statement with hypotheses, states that meet them. -/

namespace Sys2Proof.Tests

open Sys2Proof Sys2Proof.Machine

set_option maxRecDepth 20000

/-! ## Operands of commands -/

theorem test_wellFormed_refuses_flag_on_line : (Instr.frameReceived 0 [1, 0xA5]).wellFormed = false := by decide

theorem test_wellFormed_refuses_account_96 : (Instr.replyTimerExpiry 96).wellFormed = false := by decide

theorem test_wellFormed_accepts : (Instr.frameReceived 3 [0xA6, 0x85]).wellFormed = true ∧
    (Instr.replyTimerExpiry 95).wellFormed = true ∧ Instr.setMode.wellFormed = true := by decide

/-- The table gives no row any bits, so no word spells a command. -/
theorem test_no_word_spells_a_command : decodeTableWord 8 1 = none ∧
    State.reset.withFetchWord 8 1 = State.reset := by decide

/-! ## The line (R1 to R5) -/

/-- The check value of polynomial x¹⁶ + x¹² + x⁵ + 1 with preset 0xFFFF, neither reflected nor inverted. -/
theorem test_check_of_123456789 : check [0x31, 0x32, 0x33, 0x34, 0x35, 0x36, 0x37, 0x38, 0x39] = 0x29B1 := by decide

/-- R2. -/
theorem test_stuffing : stuff [0xA5, 1, 0xA6] = [0xA6, 0x85, 1, 0xA6, 0x86] := by decide

/-- R3: a PROBE of station 17 is 8 bytes: kind 8 in the upper five bits of byte 2, Length 0. -/
theorem test_probe_frame : (buildFrame 17 17 8 0 0x2C 0 []).take 6 = [17, 17, 0x40, 0x2C, 0, 0] ∧
    (buildFrame 17 17 8 0 0x2C 0 []).length = 8 := by decide

/-- R19: what the first flag after a reset ends is lost; the same line behind that flag is an abort. -/
theorem test_reception_cut_by_reset_is_lost :
    let first := receive [1, 0xA6] State.reset
    first.port = { State.reset.port with flagSeen := true } ∧
      (receive [1, 0xA6] first).port = (first.count .abort).port := by decide

/-! ## The busy moment on RING-OUT (1.5) -/

/-- The part of 1.5 as F3 has left: the insertion queue holds Rp and Pl, and 0x2B is away. -/
def busy : State := { State.reset with port := { State.reset.port with
  seqCounter := 0x2C, ownSet := [⟨0x2B, some 15⟩], ringState := .closed
  insertion := [⟨.reply, 201, 5, [1, 0], some 9, false⟩, ⟨.poll, 121, 3, [], none, false⟩] } }

/-- Rp departs with the sequence it echoes and leaves the counter alone. -/
theorem test_reply_departs_with_echo : (departInserted busy).port.ownSet.map (fun e => e.seq) = [0x2B, 9] ∧
    (departInserted busy).port.seqCounter = 0x2C := by decide

/-- Pl departs with 0x2C, and the counter moves to 0x2D. -/
theorem test_poll_departs_with_counter :
    let s : State := { busy with port := { busy.port with insertion := busy.port.insertion.drop 1 } }
    (departInserted s).port.ownSet.map (fun e => e.seq) = [0x2B, 0x2C] ∧
      (departInserted s).port.seqCounter = 0x2D := by decide

/-! ## The Works Clock (2.3) -/

/-- The clock of the example at some counted seconds of day 812. -/
def clockAt (seconds : Nat) : State := { State.reset with
  clock := ⟨seconds, 812, .workday, .valid, some 1000, some 600000⟩
  tables := { State.reset.tables with t14 := ⟨201, 0x3FFE⟩ } }

theorem test_time_adopted_same_day :
    (judgeTime (be 4 41398 ++ be 2 812 ++ [0]) (clockAt 41396)).clock.seconds = 41398 := by decide

theorem test_time_rejected_before_block :
    (judgeTime (be 4 39500 ++ be 2 812 ++ [0]) (clockAt 41460)).clock.seconds = 41460 ∧
      (judgeTime (be 4 39500 ++ be 2 812 ++ [0]) (clockAt 41460)).mgmt.notices = [(.timeRejected, 39500)] := by decide

theorem test_time_adopted_later_day :
    let s := judgeTime (be 4 5 ++ be 2 813 ++ [1]) (clockAt 86399)
    s.clock.seconds = 5 ∧ s.clock.day = 813 ∧ s.clock.dayType = .weekend := by decide

/-! ## The lockout guard (R24) -/

/-- A write of an operator into an empty table; the last engineer set to IGNORE, and moved to another station, beside a
billing station; the same move with no other management entry; and every management entry emptied at once. -/
theorem test_lockout_guard :
    let engineer (station : Byte) (ignore : Bool) : Option Binding := some ⟨station, .mgmtEngineer, 0, ignore⟩
    let billing : Option Binding := some ⟨205, .mgmtBilling, 0, false⟩
    guardOk [none] [billing] = false ∧ guardOk [engineer 201 false, billing] [engineer 201 true, billing] = false ∧
      guardOk [engineer 201 false, billing] [engineer 204 false, billing] = false ∧
      guardOk [engineer 201 false] [engineer 204 false] = true ∧ guardOk [engineer 201 false, billing] [none, none] = true := by
  decide

/-! ## Status arrivals (the boiler of 2.2) -/

def boilerOut : State := { State.reset with
  now := 103000
  records := State.reset.records.set 12 ⟨0, .good, some 98000, none, true⟩ }

theorem test_lone_status_is_candidate :
    (arrivalAt 12 1 boilerOut).record 12 = ⟨0, .good, some 98000, some 1, true⟩ := by decide

theorem test_agreed_status_clears_candidate :
    (arrivalAt 12 0 { arrivalAt 12 1 boilerOut with now := 106000 }).record 12 =
      ⟨0, .good, some 106000, none, true⟩ := by decide

/-! ## Bands (the holder of 3.1) -/

def holder0 : HolderSetting := ⟨100, 250, 750, 900, 30, 500, 150, 20000, 0, 0, 0⟩

theorem test_band_assigned_and_down : nextBand holder0 .unknown 520 = .normal ∧
    nextBand holder0 .normal 240 = .low ∧ nextBand holder0 .low 265 = .low ∧
    nextBand holder0 .low 285 = .normal := by decide

theorem test_band_up_and_back : nextBand holder0 .normal 760 = .high ∧ nextBand holder0 .high 735 = .high ∧
    nextBand holder0 .high 950 = .highHigh ∧ nextBand holder0 .lowLow 120 = .lowLow ∧
    nextBand holder0 .lowLow 140 = .low := by decide

/-! ## Converter blows (3.3) -/

/-- Holder 1's window with maximum blow time 1800 s, at internal time 1000 s, clock day 812, 30 000 s. -/
def converter (ms seconds : Nat) : State := { State.reset with
  now := ms, clock := ⟨seconds, 812, .workday, .valid, some (ms + 1000), some 9999999⟩
  tables := { State.reset.tables with
    t3 := [HolderSetting.zero, ⟨100, 200, 800, 900, 20, 600, 100, 8000, 100, 120, 1800⟩] } }

theorem test_blow_starts : (handStatus 8 1 (converter 1000000 30000)).holder.window.limitTimer =
    some ⟨2800000, 1800⟩ ∧ effectiveTarget (handStatus 8 1 (converter 1000000 30000)) 1 = 500 := by decide

theorem test_blow_ends_in_tail :
    let s := handStatus 8 0 { handStatus 8 1 (converter 1000000 30000) with now := 1960000 }
    s.holder.window.tailDue = some 2080000 ∧
      s.holder.log = [⟨some ⟨812, 30000⟩, 960, none, .normal⟩] := by decide

/-! ## The balance (4.10, 5.8 and 5.9) -/

def boiler (cls fmin fmax weight efficiency : Nat) : BoilerSetting :=
  ⟨cls, fmin, fmax, weight, efficiency, .pass, 0, 0⟩

def turbine (maxSteam : Nat) : TurbineSetting := ⟨maxSteam, .pass, 0, 0⟩

def exchanger (maxHeat : Nat) : ExchangerSetting := ⟨maxHeat, 0, 10, .pass, 0, 0⟩

/-- The snapshot at 7200 s. -/
def at7200 : Snapshot :=
  { values := [4800, 2600, 1500, 1100, 900, 0, 520, 610, 1, 1, 1, 1, 1, 0, 0, 5500, 3500, 1, 1, 0, 1, 0, 1, 0, 1,
      0, 0, 0, 6000, 1, 0].map fun v => (v, .good)
    t2 := [3300, 17500, 8500]
    t3 := [holder0, ⟨100, 200, 800, 900, 20, 600, 100, 8000, 100, 120, 1800⟩]
    t4 := [boiler 1 8000 30000 50 88, boiler 1 8000 30000 30 86, boiler 2 6000 20000 40 84, boiler 2 6000 20000 20 84,
      boiler 3 5000 15000 50 82, boiler 3 5000 15000 50 82]
    t5 := [turbine 40000, turbine 25000]
    t6 := [exchanger 35000, exchanger 30000, exchanger 20000, exchanger 20000]
    t7 := ⟨15000, .pass, 0, 0⟩, t8 := ⟨10, 40, 3000, true, 20000⟩
    bands := [.normal, .normal], targets := [500, 500]
    bound := (.flare, 0) :: (List.range 31).map recordOwner
    requests := [30000, 25000, 18000, 12000], exportTarget := 12000, tolerance := 2000
    mode := .heatFirst, island := false, state := .running, period := 10, takenAt := 7200000 }

theorem test_fill_of_4_10 : (compute at7200 1000).byProduct = [30000, 29861, 6000, 6000, 0, 0] ∧
    (compute at7200 1000).fuel = 71861 := by decide

theorem test_heat_first_of_5_8 :
    let m := compute at7200 1000
    m.pool = 71160 ∧ m.heat = 71160 ∧ m.topUp = [0, 139, 2049, 0, 0, 0] ∧ m.topHeat = 1840 ∧ m.rho = 974 ∧
      m.exchangerShares = [30000, 25000, 18000, 0] := by decide

theorem test_power_first_of_5_9 :
    let m := compute { at7200 with mode := .powerFirst, exportTarget := 13000 } 974
    m.turbineNeed = 47500 ∧ m.turbineHigh = 52500 ∧ m.heat = 23660 ∧ m.turbine = 47500 ∧ m.dump = 0 ∧
      m.shortfall = 49340 := by decide

/-! ## Governing (6.9) -/

theorem test_ramp : rampLimit 200 10 7000 8049 = 8049 ∧ rampLimit 200 10 8049 6000 = 6049 ∧
    rampLimit 200 10 6000 9500 = 8000 := by decide

theorem test_governed_setpoint : governedSetpoint .clamp 8049 9000 = 8049 ∧ governedSetpoint .clamp 6049 (-500) = 0 ∧
    governedSetpoint .clamp 6000 5500 = 5500 := by decide

/-- Boiler 2 at station 42 in CLAMP with limit 8049 and trip setpoint 6000; the allocation RUNNING. -/
def boiler2 : State := { State.reset with
  tables := { State.reset.tables with
    t0 := State.reset.tables.t0.set 0 (some ⟨42, .boiler, 2, false⟩)
    t4 := State.reset.tables.t4.set 2 ⟨2, 6000, 20000, 40, 84, .clamp, 200, 6000⟩ }
  alloc := { State.reset.alloc with state := .running, period := some ⟨10, 0⟩ }
  governor := { State.reset.governor with
    grants := State.reset.governor.grants.set 2 { GrantRecord.initial with grant := 8049, limit := 8049 } } }

/-- A DEMAND to station 42 with its setpoint and no tags. -/
def demand (setpoint : Int) : List Byte := buildFrame 42 60 2 0 7 0 ([1, 0] ++ setpointBytes setpoint)

/-- At 7203 s: 9000 is sent as 8049 with the tag (17, CLAMPED, 9000). -/
theorem test_demand_9000_clamped : framePayload (governDemand boiler2 (demand 9000) true).1 =
    [17, 2] ++ be 4 9000 ++ [1, 0] ++ be 4 8049 := by decide

/-- At 7213 s: an unusable DEMAND is sent at the limit with the tag (17, HELD, 0). -/
theorem test_unusable_demand_held : framePayload (governDemand boiler2 (demand 6500) false).1 =
    [17, 1] ++ be 4 0 ++ [1, 0] ++ be 4 8049 := by decide

/-! ## Trips (7.7) -/

/-- RUNNING, clock day 812 at 44 103 s, notices enabled. -/
def tripWorks : State := { clockAt 44103 with
  alloc := { State.reset.alloc with state := .running, period := some ⟨10, 0⟩ } }

/-- Holder 1 LOWLOW: TRIP notice with value 34; then SAFETY: value 70. -/
theorem test_trip_notices : (raiseCause .lowLow1 tripWorks).mgmt.notices = [(.trip, 34)] ∧
    (raiseCause .safety (raiseCause .lowLow1 tripWorks)).mgmt.notices = [(.trip, 70)] ∧
    (raiseCause .lowLow1 tripWorks).alloc.state = .tripped := by decide

/-! ## Export (8.3, 8.6 and 8.7) -/

/-- A block with its schedule entry, delivered kJ and elapsed seconds. -/
def blockOf (index target tolerance : Nat) (delivered : Int) (elapsed : Nat) : Block :=
  ⟨index, 812, some ⟨target, tolerance⟩, delivered, elapsed, BlockFlags.clear, 0, 0⟩

theorem test_export_targets : exportTarget 3000 10 (blockOf 20 12000 2000 44000 4) = (12002, 2000) ∧
    exportTarget 3000 10 (blockOf 20 12000 2000 9948000 904) = (13004, 2000) ∧
    exportTarget 3000 10 (blockOf 20 12000 2000 20700000 1794) = (15000, 2000) ∧
    exportTarget 3000 10 (blockOf 24 15000 2000 36000 14) = (15097, 2000) := by decide

/-- Block 20 settles WITHIN with 5774 kWh and a deviation of −226. -/
theorem test_settlement_of_block_20 : settle (blockOf 20 12000 2000 20787000 1800) 311 0 =
    ⟨311, 20, 812, 6000, 1000, 5774, -226, .within, BlockFlags.clear, 0⟩ := by decide

/-- 8.7: the clock steps from 41 520 to 43 210, 6 s into the period: block 23 settles UNDER with 300 kWh. -/
theorem test_clock_step : let s := judgeTime (be 4 43210 ++ be 2 812 ++ [0]) { clockAt 41520 with
      now := 6000
      records := State.reset.records.set 27 ⟨9000, .good, some 0, none, false⟩
      alloc := { State.reset.alloc with state := .running, period := some ⟨10, 0⟩ }
      tracker := { State.reset.tracker with block := some (blockOf 23 12000 2000 1026000 114) } }
    s.tracker.queue.map (fun r => (r.index, r.actualKwh, r.deviation, r.settleClass)) = [(23, 300, -5700, .under)] ∧
      s.tracker.block.map (fun b => (b.index, b.delivered, b.elapsed)) = some (24, 0, 10) := by decide

/-! ## Sweeps and billing (9.9 and 10.6) -/

theorem test_plausibility : plausibilityLimit 800 600 = 167 ∧ plausibilityLimit 400 600 = 84 ∧
    readingDelta 99999950 30 = 80 := by decide

theorem test_origin_and_charges : originFraction 1800000 60000 = 967 ∧ charge 119 48250 = 5742 ∧
    charge 5 70500 = 353 ∧ charge 80 48250 = 3860 := by decide

/-- Account 20 before the first sweep of 10.6, as account 0 here. -/
def account20 : State := { State.reset with
  now := 90600000
  tables := { State.reset.tables with
    t10 := List.replicate 14 0 ++ List.replicate 28 1 ++ List.replicate 102 0
    t12 := State.reset.tables.t12.set 0 ⟨true, 0, 800⟩ }
  alloc := { State.reset.alloc with recCounter := 10201800000, topCounter := 160060000 }
  billing := { State.reset.billing with accounts := State.reset.billing.accounts.set 0 { Account.initial with
    state := .active, baseline := some ⟨1234567, 90000000, 10200000000, 160000000⟩ } } }

/-- The register 1 234 691 files 119 kWh recovered and 5 kWh purchased under band 1. -/
theorem test_reading_accepted :
    ((takeReading ⟨0, 1234691, ⟨815, 30000⟩, .workday, 90600000⟩ account20).account 0).energies =
      [0, 0, 119, 5, 0, 0, 0, 0] := by decide

/-- Against the same baseline the register 1 234 950 is implausible. -/
theorem test_reading_rejected :
    let a := (takeReading ⟨0, 1234950, ⟨815, 30600⟩, .workday, 90600000⟩ account20).account 0
    a.implausible = 1 ∧ a.period.rejected = 1 ∧ a.energies = List.replicate 8 0 := by decide

/-! ## Town requests, a full queue and an overrun (6.10, 8.8 and 9.10) -/

/-- Exchanger 0 of 6.10 with a request recorded at 7195 s, at some internal time in seconds. -/
def townAt (seconds : Nat) (setpoint : Int) : State := { State.reset with
  now := seconds * 1000
  tables := { State.reset.tables with t6 := ⟨35000, 20000, 60, .pass, 0, 0⟩ :: List.replicate 3 (exchanger 1) }
  governor := { State.reset.governor with
    grants := State.reset.governor.grants.set 8 { GrantRecord.initial with lastRequest := some ⟨setpoint, 7195000⟩ } } }

theorem test_town_requests : exchangerRequest (townAt 7200 38000) 0 = 35000 ∧
    exchangerRequest (townAt 7250 38000) 0 = 35000 ∧ exchangerRequest (townAt 7260 38000) 0 = 20000 ∧
    exchangerRequest (townAt 7200 (-2000)) 0 = 0 := by decide

/-- Records 296 to 311 are queued when block 21 closes: 296 is dropped, and 312 says so. -/
theorem test_full_settlement_queue :
    let s := appendSettlement (blockOf 21 10000 1000 0 1800) { clockAt 39604 with
      tracker := { State.reset.tracker with
        nextNumber := 312, queue := (List.range 16).map fun i => settle (blockOf i 0 0 0 1800) (296 + i) 0 } }
    s.tracker.queue.map (fun r => r.number) = (List.range 16).map (fun i => 297 + i) ∧
      (s.tracker.queue.getLast?).map (fun r => r.lostBefore) = some 1 ∧
      s.mgmt.notices = [(.settlementReady, 16)] := by decide

/-- Sweep 7 ends overrun at 1642 s: sweep 8 starts at once, and its interval runs to 2242 s. -/
theorem test_overrun :
    let s := checkSweepEnd { clockAt 41000 with
      now := 1642000
      tables := { (clockAt 41000).tables with t12 := State.reset.tables.t12.set 0 ⟨true, 0, 800⟩ }
      sweep := { State.reset.sweep with
        state := .sweeping, number := 7, copy := ⟨.repeating, 0, 95, 600⟩, cursor := 96, overrun := true } }
    s.sweep.state = .sweeping ∧ s.sweep.number = 8 ∧ s.sweep.intervalDue = some 2242000 ∧
      s.mgmt.notices = [(.sweepDone, 7), (.sweepOverrun, 8)] := by decide

/-- 5.9: the heat of the period ended at 7210 s, counted by origin at 974. -/
theorem test_origin_counters :
    let s := countOrigin 10 { State.reset with
      tables := { State.reset.tables with
        t0 := [some ⟨50, .exchanger, 0, false⟩, some ⟨51, .exchanger, 1, false⟩, some ⟨52, .exchanger, 2, false⟩] }
      records := ((State.reset.records.set 19 ⟨30100, .good, some 0, none, false⟩).set 21
        ⟨24700, .good, some 0, none, false⟩).set 23 ⟨17600, .good, some 0, none, false⟩
      alloc := { State.reset.alloc with rho := 974, recCounter := 9360500000, topCounter := 152300000 } }
    s.alloc.recCounter = 9361205176 ∧ s.alloc.topCounter = 152318824 := by decide

/-! ## States that meet the hypotheses of the statements -/

def entry (station : Byte) (role : Role) (index : Nat) : Option Binding := some ⟨station, role, index, false⟩

/-- A works: management at 201 to 203, the clock at 40, and one station of most roles. -/
def stations : List (Option Binding) :=
  [entry 201 .mgmtEngineer 0, entry 202 .mgmtOperator 0, entry 203 .mgmtBilling 0, entry 40 .clock 0,
   entry 10 .gasSource 0, entry 20 .holder 0, entry 41 .boiler 0, entry 60 .grid 0, entry 50 .heatMeter 0,
   entry 30 .converter 0, some ⟨51, .heatMeter, 1, true⟩]

/-- The works STOPPED, with its tables loaded, the clock VALID, and accounts 0 and 1 enabled. -/
def works : State := { State.reset with
  now := 100000
  port := { State.reset.port with flagSeen := true }
  tables := { State.reset.tables with
    t0 := stations ++ List.replicate 117 none
    t3 := [holder0, ⟨100, 200, 800, 900, 20, 600, 100, 8000, 100, 120, 1800⟩]
    t4 := ⟨1, 8000, 30000, 50, 88, .clamp, 200, 8000⟩ :: List.replicate 5 BoilerSetting.zero
    t12 := ⟨true, 0, 800⟩ :: ⟨true, 1, 400⟩ :: List.replicate 94 AccountSetting.zero
    t14 := ⟨201, 0x3FFE⟩ }
  clock := ⟨41396, 812, .workday, .valid, some 101000, some 700000⟩
  alloc := { State.reset.alloc with settingsLoaded := true } }

/-- The works RUNNING since 96 s. -/
def running : State := { works with
  alloc := { works.alloc with state := .running, period := some ⟨10, 96000⟩ }
  tracker := { works.tracker with block := some (blockOf 22 12000 2000 0 1796) } }

/-- A part whose oldest request has come from a station. -/
def asking (station : Byte) (payload : List Byte) (s : State) : State :=
  { s with mgmt := { s.mgmt with queue := [⟨station, 7, payload⟩] } }

theorem waiting (s : State) (station : Byte) (code : Nat) (operands : List Byte) (released : s.outOfReset = true)
    (slot : s.freeSlot .reply = true) (serving : s.mgmt.resetStage = .none) :
    Waiting (asking station (BitVec.ofNat 8 code :: operands) s) ⟨station, 7, BitVec.ofNat 8 code :: operands⟩ []
      code operands :=
  ⟨released, rfl, rfl, slot, serving⟩

/-- A part between two frames whose line brings a frame. -/
theorem goodFrame (s : State) (f : List Byte) (released : s.outOfReset = true) (opened : s.port.flagSeen = true)
    (ended : lineEnd (stuff f) = .frame f)
    (size : sizeOk f = true) (header : headerOk f = true) : GoodFrame s (stuff f) f :=
  ⟨released, opened, ended, size, header⟩

/-! ### The step and the resets -/

theorem witness_StepRunsFront : ({ works with pending := [.read, .readOn] } : State).pending = .read :: [.readOn] := rfl

theorem witness_IdleStep : State.reset.pending = [] ∧ readyCommands State.reset = [] ∧
    readyCommands { State.reset with now := 1000 } = [.probeTimerExpiry] := by decide

/-- Straps 1 and 254 are good and 0 and 255 are not, in each of the four resets. -/
theorem witness_ResetsEnd :
    ((1 : Byte) ≠ 0 ∧ (1 : Byte) ≠ 255) ∧ ((254 : Byte) ≠ 0 ∧ (254 : Byte) ≠ 255) ∧
    works.pins.resetAsserted = false ∧
    ({ works.pins with resetAsserted := true } : Pins).resetAsserted = true ∧
    (let s : State := { works with pins := { works.pins with strapHold := true } }
     s.pins.strapHold = true ∧ s.pins.resetAsserted = false) ∧
    (let s : State := { works with mgmt := { works.mgmt with resetStage := .replyLeft } }
     s.outOfReset = true ∧ s.mgmt.resetStage = .replyLeft ∧ s.port.ringOut = .flags) := by decide

theorem witness_HeldPart :
    ({ works.port with ringOut := .transit [1] } : Port).ringOut = .transit [1] ∧
    ({ works.port with ringOut := .inserted [1] 2 } : Port).ringOut = .inserted [1] 2 ∧
    works.port.ringOut = .flags ∧
    ({ works with pins := { works.pins with strapHold := true } } : State).outOfReset = false ∧
    (State.reset.outOfReset = true ∧ State.reset.port.flagSeen = false) ∧
    (∀ x, Instr.read ≠ .powerOnReset x) := by
  refine ⟨rfl, rfl, rfl, rfl, ⟨rfl, rfl⟩, ?_⟩
  intro x h
  cases h

/-! ### The line and reception -/

theorem witness_FramesRoundTrip : ([0xA5, 0xA6] : List Byte) ≠ [] ∧ (255 : Byte) ≠ 0 ∧ 31 < 32 ∧ 7 < 8 ∧
    (List.replicate 120 (0xA6 : Byte)).length ≤ 120 := by decide

/-- A frame that fails each check, and one that passes both; 7 and 131 bytes are the sizes next to the range. -/
theorem witness_ReceptionChecks : works.outOfReset = true ∧ works.port.flagSeen = true ∧ lineEnd [] = .idle ∧ lineEnd [1, 0xA6] = .aborted ∧
    lineEnd (List.replicate 7 1) = .frame (List.replicate 7 1) ∧ (List.replicate 7 (1 : Byte)).length < 8 ∧
    (lineEnd (List.replicate 131 1) = .frame (List.replicate 131 1) ∧ 130 < (List.replicate 131 (1 : Byte)).length) ∧
    (let f : List Byte := [9, 8, 0x40, 0, 0, 0, 1, 2]
     lineEnd f = .frame f ∧ sizeOk f = true ∧ be 2 (check (f.take 6)).toNat ≠ (f.drop 6).take 2) := by decide

/-- The part's own PROBE, its sequence in the own-frame set and not, on an open ring. -/
def ownProbe : List Byte := buildFrame 17 17 8 0 5 0 []

theorem witness_OwnFrameStripped : GoodFrame works (stuff ownProbe) ownProbe ∧
    frameSource ownProbe = works.pins.station ∧ (∀ e ∈ works.port.ownSet, e.seq ≠ frameSeq ownProbe) ∧
    (let s : State := { works with port := { works.port with ringState := .open, ownSet := [⟨5, some 100010⟩] } }
     GoodFrame s (stuff ownProbe) ownProbe ∧ frameSource ownProbe = s.pins.station ∧
       ∃ e ∈ s.port.ownSet, e.seq = frameSeq ownProbe) :=
  ⟨goodFrame _ _ rfl rfl (by decide) (by decide) (by decide), by decide, by decide,
    goodFrame _ _ rfl rfl (by decide) (by decide) (by decide), by decide, by decide⟩

/-- A READ from station 201 to the part, and a POLL of another station. -/
def mgmtFrame : List Byte := buildFrame 17 201 4 0 7 0 [1, 0, 0, 1]

def foreignPoll : List Byte := buildFrame 50 60 3 0 7 0 []

/-- A frame with no payload, one with a wrong payload check, and one that fails its layout; a full and a free request
queue, and a full and a free transit queue. -/
theorem witness_ForeignFrameTaken :
    (frameLength foreignPoll = 0 ∧ payloadOk (mgmtFrame.dropLast ++ [0]) = false ∧
      (∀ p ∈ ([[1], []] : List (List Byte)), ∀ kind ∈ [1, 2, 7],
        layoutOk 17 (buildFrame 17 201 kind 0 7 0 p) = false) ∧
      layoutOk 17 (buildFrame 17 201 4 1 7 0 [1]) = false ∧ layoutOk 17 (buildFrame 255 201 4 1 7 0 [1]) = true) ∧
    (GoodFrame works (stuff mgmtFrame) mgmtFrame ∧ frameSource mgmtFrame ≠ works.pins.station ∧
      consumedFrame works mgmtFrame ∧ works.mgmt.queue.length < 8) ∧
    8 ≤ ({ works.mgmt with queue := List.replicate 8 ⟨201, 7, [1]⟩ } : Mgmt).queue.length ∧
    (GoodFrame works (stuff foreignPoll) foreignPoll ∧ frameSource foreignPoll ≠ works.pins.station ∧
      ¬ consumedFrame works foreignPoll ∧ works.port.transit.length < 4 ∧ frameKind foreignPoll ≠ 1 ∧
      frameKind foreignPoll ≠ 7) ∧
    4 ≤ ({ works.port with transit := List.replicate 4 ⟨foreignPoll, true⟩ } : Port).transit.length :=
  ⟨by decide, ⟨goodFrame _ _ rfl rfl (by decide) (by decide) (by decide), by decide, ⟨by decide, by decide, by decide⟩, by decide⟩,
    by decide, ⟨goodFrame _ _ rfl rfl (by decide) (by decide) (by decide), by decide,
      fun h => absurd h.2.1 (by decide), by decide, by decide, by decide⟩, by decide⟩

def sampleFrame (destination source : Byte) : List Byte := buildFrame destination source 1 0 7 0 [1, 0, 0, 0, 1, 0]

def timeFrame (source : Byte) : List Byte := buildFrame 255 source 7 0 7 0 (be 4 41398 ++ be 2 812 ++ [0])

/-- A payload of two entries; stations of the table bound once, admitted, ignored and unbound; SAMPLE and TIME frames
from stations of each case: unbound, a gas source, a heat meter, the clock, another. -/
theorem witness_ContentOffered :
    ((1 : Nat) < (List.replicate 12 (0xFF : Byte)).length / 6 ∧
      (∀ b ∈ works.bindings, ∀ c ∈ works.bindings, c.station = b.station → c = b) ∧
      (∃ b ∈ works.bindings, b.ignore = true) ∧ (∃ b ∈ works.bindings, b.ignore = false) ∧
      ∀ b ∈ works.bindings, b.station ≠ 99) ∧
    (∀ f ∈ [sampleFrame 255 10, sampleFrame 17 50, sampleFrame 255 99, timeFrame 40, timeFrame 10],
      GoodFrame works (stuff f) f ∧ frameSource f ≠ works.pins.station ∧ usableFrame works f = true ∧
        works.port.transit.length < 4) ∧
    (frameKind (sampleFrame 255 99) = 1 ∧ works.admitted 99 = none) ∧
    (frameKind (sampleFrame 255 10) = 1 ∧ works.admitted 10 = some ⟨10, .gasSource, 0, false⟩) ∧
    (frameKind (sampleFrame 17 50) = 1 ∧ works.admitted 50 = some ⟨50, .heatMeter, 0, false⟩ ∧
      frameDestination (sampleFrame 17 50) = works.pins.station) ∧
    (frameKind (timeFrame 40) = 7 ∧ works.admitted 40 = some ⟨40, .clock, 0, false⟩) ∧
    (frameKind (timeFrame 10) = 7 ∧ works.admitted 10 ≠ none) := by
  refine ⟨by decide, ?_, by decide, by decide, by decide, by decide, by decide⟩
  intro f h
  have h : f = sampleFrame 255 10 ∨ f = sampleFrame 17 50 ∨ f = sampleFrame 255 99 ∨ f = timeFrame 40 ∨
      f = timeFrame 10 := by simpa using h
  rcases h with rfl | rfl | rfl | rfl | rfl <;>
    exact ⟨goodFrame _ _ rfl rfl (by decide) (by decide) (by decide), by decide, by decide, by decide⟩

/-- A measurement record with its reset range, the two levels, and a status record agreed, with a candidate, and with
neither. -/
theorem witness_ArrivalRules :
    (∀ r ∈ [0, 6, 7], isStatusRecord r = false ∧ (works.inputSetting r).low ≤ (works.inputSetting r).high) ∧
    ((0 : Nat) ≠ 6 ∧ (0 : Nat) ≠ 7 ∧ 6 = 6 + 0 ∧ 7 = 6 + 1) ∧
    (isStatusRecord 12 = true ∧ (boilerOut.record 12).agreed = true ∧ (boilerOut.record 12).value = 0) ∧
    ((1 : Int) = 0 ∨ (1 : Int) = 1) ∧ ¬ ((boilerOut.record 12).agreed = true ∧ (boilerOut.record 12).value = 1) ∧
    (boilerOut.record 12).candidate ≠ some 1 ∧
    ((arrivalAt 12 1 boilerOut).record 12).candidate = some 1 := by decide

/-- The last second and the first, the two day types at the end of the codes, each case of acceptance, a schedule to
roll, and a clock step in STOPPED and in RUNNING. -/
theorem witness_TimeJudged :
    (86399 : Nat) < 86400 ∧ (2 : Nat) < 3 ∧ dayTypeOfCode 0 = some .workday ∧ dayTypeOfCode 2 = some .holiday ∧
    (State.reset.clock.state = .invalid) ∧
    (works.clock.state ≠ .invalid ∧ 812 = works.clock.day ∧ works.clock.seconds / 1800 * 1800 ≤ 41398 ∧
      41398 / 1800 ≤ works.clock.seconds / 1800) ∧
    (works.clock.seconds / 1800 * 1800 ≤ 43210 ∧ works.clock.seconds / 1800 < 43210 / 1800) ∧
    (813 ≠ works.clock.day ∧ 1 ≤ (813 + 65536 - works.clock.day) % 65536 ∧
      (813 + 65536 - works.clock.day) % 65536 ≤ 32767) ∧
    ¬ (works.clock.state = .invalid ∨ (812 = works.clock.day ∧ works.clock.seconds / 1800 * 1800 ≤ 39500) ∨
      (812 ≠ works.clock.day ∧ 1 ≤ (812 + 65536 - works.clock.day) % 65536 ∧
        (812 + 65536 - works.clock.day) % 65536 ≤ 32767)) ∧
    works.tables.t9.length = 96 ∧ works.alloc.state = .stopped ∧
    (running.alloc.state ≠ .stopped ∧ running.alloc.period = some ⟨10, 96000⟩ ∧
      running.tracker.block = some (blockOf 22 12000 2000 0 1796) ∧ running.tracker.queue.length < 16) := by decide

/-- A record with no value, one just past its staleness limit, one at it, and one that arrived this period; a stale
status record whose substitute changes its value, and a stale level. -/
theorem witness_RecordsJudged :
    works.records.length = 31 ∧ (works.record 0).quality = .absent ∧
    (let s : State := { works with now := 700001, records := works.records.set 9 ⟨1, .good, some 100000, none, true⟩ }
     (s.record 9).quality ≠ .absent ∧ (s.record 9).arrival = some 100000 ∧
       (s.inputSetting 9).staleness * 1000 < s.now - 100000) ∧
    (let s : State := { works with now := 700000, records := works.records.set 9 ⟨1, .good, some 100000, none, true⟩ }
     s.now - 100000 ≤ (s.inputSetting 9).staleness * 1000 ∧ 100000 < 690000 ∧ 100000 ≤ 100000) ∧
    isStatusRecord 9 = true ∧ (1 : Int) ≠ (works.inputSetting 9).substitute ∧
    (let s : State := { works with now := 700001, records := works.records.set 6 ⟨500, .good, some 100000, none, false⟩ }
     (s.record 6).quality ≠ .absent ∧ (s.record 6).arrival = some 100000 ∧
       (s.inputSetting 6).staleness * 1000 < s.now - 100000) := by decide

/-- Each state of the blow window, the overlay clear and set, and a service record of each kind. -/
theorem witness_StatusHandedOn :
    (works.holder.window.state = .idle ∧ works.holder.window.stuck = false ∧ works.latch.island = false) ∧
    ({ works.holder.window with stuck := true } : BlowWindow).stuck = true ∧
    ({ works.holder.window with state := .tail } : BlowWindow).state = .tail ∧
    (let s := handStatus 8 1 works
     s.holder.window.state = .blowing ∧ s.holder.window.start = some ⟨100000, some ⟨812, 41396⟩⟩ ∧
       s.holder.log.length ≤ 8) ∧
    (handStatus 29 0 works).latch.island = true ∧
    ((9 ≤ 14 ∧ 14 ≤ 14 ∧ 5 = 14 - 9) ∧ (17 ≤ 18 ∧ 18 ≤ 18 ∧ 7 = 18 - 11) ∧ (11 : Nat) = 8 + (26 - 20) / 2) := by
  decide

/-! ### RING-OUT -/

/-- The works with a frame waiting to be forwarded. -/
def forwarding (s : State) (f : List Byte) (usable : Bool) : State :=
  { s with port := { s.port with transit := [⟨f, usable⟩] } }

theorem transitReady (s : State) (f : List Byte) (usable : Bool) (released : s.outOfReset = true)
    (free : s.port.ringOut = .flags) (stage : s.mgmt.resetStage ≠ .replyLeft) :
    TransitReady (forwarding s f usable) ⟨f, usable⟩ [] :=
  ⟨released, free, stage, rfl⟩

/-- A POLL, a DEMAND to no governed station, and one to boiler 2 with the allocation STOPPED. -/
theorem witness_TransitDeparts :
    (TransitReady (forwarding works foreignPoll true) ⟨foreignPoll, true⟩ [] ∧ frameKind foreignPoll ≠ 2) ∧
    (frameKind (demand 9000) = 2 ∧ governedRecord works (demand 9000) = none) ∧
    (let s : State := { boiler2 with alloc := { boiler2.alloc with state := .stopped } }
     TransitReady (forwarding s (demand 9000) true) ⟨demand 9000, true⟩ [] ∧
       governedRecord s (demand 9000) = some 2 ∧ s.alloc.state = .stopped) :=
  ⟨⟨transitReady _ _ _ rfl rfl (by decide), by decide⟩, by decide,
    ⟨transitReady _ _ _ rfl rfl (by decide), by decide, by decide⟩⟩

/-- A DEMAND to station 42 with three tags. -/
def taggedDemand (setpoint : Int) : List Byte :=
  buildFrame 42 60 2 3 7 0 (List.replicate 18 9 ++ [1, 0] ++ setpointBytes setpoint)

/-- Boiler 2 in CLAMP: a setpoint above the limit, one at it, and one with three tags. -/
theorem witness_DemandGoverned :
    (∀ f ∈ [demand 9000, demand 8049, taggedDemand 7000],
      TransitReady (forwarding boiler2 f true) ⟨f, true⟩ [] ∧
      Governed boiler2 f 2 ⟨.clamp, 200, 6000, 20000⟩ ∧ sizeOk f = true ∧ layoutOk boiler2.pins.station f = true) ∧
    2 < boiler2.governor.grants.length ∧ (boiler2.grant 2).limit ≤ 2147483647 ∧ frameTags (demand 9000) < 3 ∧
    3 ≤ frameTags (taggedDemand 7000) := by
  refine ⟨?_, by decide, by decide, by decide, by decide⟩
  intro f h
  have h : f = demand 9000 ∨ f = demand 8049 ∨ f = taggedDemand 7000 := by simpa using h
  rcases h with rfl | rfl | rfl <;>
    exact ⟨transitReady _ _ _ rfl rfl (by decide), ⟨by decide, by decide, by decide, by decide, by decide⟩,
      by decide, by decide⟩

/-- A DEMAND whose header names two tags over the length of one with none. -/
def inconsistentDemand : List Byte := buildFrame 42 60 2 2 7 0 ([1, 0] ++ setpointBytes 7000)

/-- Boiler 2 in CLAMP, RUNNING and STOPPED: DEMANDs with no tags, with three, and with an inconsistent header. -/
theorem witness_UnusableDemandHeld :
    (∀ f ∈ [demand 9000, taggedDemand 7000, inconsistentDemand],
      TransitReady (forwarding boiler2 f false) ⟨f, false⟩ [] ∧ frameKind f = 2 ∧ governedRecord boiler2 f = some 2 ∧
      sizeOk f = true) ∧
    (2 < boiler2.governor.grants.length ∧ (boiler2.grant 2).limit ≤ 2147483647 ∧
      ¬ (boiler2.alloc.state = .stopped ∨ (boiler2.tables.governing 2).mode = .pass) ∧
      ({ boiler2 with alloc := { boiler2.alloc with state := .stopped } } : State).alloc.state = .stopped ∧
      layoutOk boiler2.pins.station inconsistentDemand = false) ∧
    (frameTags (demand 9000) < 3 ∧ ((demand 9000).getD 4 0).toNat = 6 + 6 * frameTags (demand 9000)) ∧
    (frameTags (taggedDemand 7000) = 3 ∧ ((taggedDemand 7000).getD 4 0).toNat = 6 + 6 * 3) ∧
    ¬ (inconsistentDemand.getD 4 0).toNat = 6 + 6 * frameTags inconsistentDemand := by
  refine ⟨?_, by decide, by decide, by decide, by decide⟩
  intro f h
  have h : f = demand 9000 ∨ f = taggedDemand 7000 ∨ f = inconsistentDemand := by simpa using h
  rcases h with rfl | rfl | rfl <;> exact ⟨transitReady _ _ _ rfl rfl (by decide), by decide, by decide, by decide⟩

theorem witness_TransitLeaves :
    (let s : State := { works with port := { works.port with ringOut := .transit [1] } }
     s.outOfReset = true ∧ s.port.ringOut = .transit [1] ∧ s.governor.onLine = none) ∧
    ({ works.governor with onLine := some 12 } : Governor).onLine = some 12 := by decide

/-- The oldest inserted frame a REPLY that echoes 9, and a POLL; the own-frame set with room, full, and with 9 in it. -/
theorem witness_InsertedDeparts :
    InsertedReady busy ⟨.reply, 201, 5, [1, 0], some 9, false⟩ [⟨.poll, 121, 3, [], none, false⟩] ∧
    (¬ ∃ e ∈ busy.port.ownSet, e.seq = 9) ∧ busy.port.ownSet.length < 16 ∧
    (let set : List OwnFrame := [⟨9, some 15⟩]
     ∃ e ∈ set, e.seq = 9) ∧
    16 ≤ ((List.range 16).map fun n => (⟨BitVec.ofNat 8 n, none⟩ : OwnFrame)).length ∧
    InsertedReady { busy with port := { busy.port with insertion := busy.port.insertion.drop 1 } }
      ⟨.poll, 121, 3, [], none, false⟩ [] :=
  ⟨⟨rfl, rfl, by decide, rfl, rfl⟩, by decide, by decide, by decide, by decide, ⟨rfl, rfl, by decide, rfl, rfl⟩⟩

/-- A REPLY that has left, the reply of a RESET, and a POLL whose item is void and whose item names account 0. -/
theorem witness_InsertedLeaves :
    (let s : State := { busy with port := { busy.port with ringOut := .inserted [1] 9 } }
     s.outOfReset = true ∧ s.port.ringOut = .inserted [1] 9 ∧
       s.port.insertion = ⟨.reply, 201, 5, [1, 0], some 9, false⟩ :: [⟨.poll, 121, 3, [], none, false⟩]) ∧
    (Quota.reply ≠ .poll ∧ (⟨.reply, 201, 5, [7, 0], some 9, true⟩ : Inserted).endsPart = true) ∧
    ({ busy.sweep with placement := [none] } : Sweep).placement = none :: [] ∧
    ({ busy.sweep with placement := [some 0] } : Sweep).placement = some 0 :: [] := by decide

/-- A lap timer due with the miss count at 2 and below, and the probe slot free and taken. -/
theorem witness_LapAndProbeTimers :
    (busy.outOfReset = true ∧ busy.port.ownSet.find? (fun x => x.seq == 0x2B) = some ⟨0x2B, some 15⟩ ∧
      busy.port.missCount ≠ 2) ∧
    ({ busy.port with missCount := 2 } : Port).missCount = 2 ∧ busy.port.probeDue = some 1000 ∧
    (¬ ∃ f ∈ busy.port.insertion, f.quota = .probe) ∧
    ∃ f ∈ [(⟨.probe, 17, 8, [], none, false⟩ : Inserted)], f.quota = .probe := by decide

/-! ### Timers and holders -/

/-- The last counted second of a day and one before it; a blow with its limit running; a tail. -/
theorem witness_ClockAndBlowTimers :
    (works.outOfReset = true ∧ works.clock.nextCount = some 101000 ∧ works.clock.seconds < 86399) ∧
    (clockAt 86399).clock.seconds = 86399 ∧
    (works.clock.adoptionDue = some 700000 ∧ works.clock.state = .valid) ∧
    (let s := handStatus 8 1 works
     s.holder.window.state = .blowing ∧ s.holder.window.limitTimer = some ⟨1900000, 1800⟩ ∧
       s.holder.log.length ≤ 8) ∧
    (let s := handStatus 8 0 (handStatus 8 1 works)
     s.holder.window.state = .tail ∧ s.holder.window.tailDue = some 220000) := by decide

/-- A holder with no settings, and holder 0 of 3.1; a level that moves no band, one that does, and one into LOWLOW. -/
theorem witness_LevelEvaluated :
    HolderSetting.zero.configured = false ∧
    (holder0.configured = true ∧ holder0.lowLow < holder0.low ∧ holder0.low < holder0.high ∧
      holder0.high < holder0.highHigh ∧ holder0.hysteresis < holder0.high - holder0.low) ∧
    (let s := evaluateLevel 0 520 works
     nextBand (s.holderSetting 0) (s.holderState 0).band 500 = (s.holderState 0).band ∧
       nextBand (s.holderSetting 0) (s.holderState 0).band 240 = .low ∧
       nextBand (s.holderSetting 0) (s.holderState 0).band 95 = .lowLow) := by decide

/-! ### The allocation -/

theorem witness_BoundaryTaken : running.outOfReset = true ∧ running.alloc.period = some ⟨10, 96000⟩ ∧
    running.alloc.computing = none ∧ running.tracker.block.isSome = true := by decide

/-- RUNNING with a computation in flight, record 0 on the line, and a ramp of 200 kW/s and of none. -/
theorem witness_CompletionPublishes :
    (let s : State := { running with
       alloc := { running.alloc with computing := some at7200 }
       governor := { running.governor with onLine := some 0 } }
     s.outOfReset = true ∧ s.alloc.computing = some at7200 ∧ s.alloc.state = .running ∧
       0 < s.governor.grants.length ∧ s.governor.onLine = some 0 ∧ s.governor.onLine ≠ some 1 ∧
       (s.grant 1).pending = none ∧ (s.tables.governing 0).ramp ≠ 0 ∧ (s.tables.governing 1).ramp = 0) ∧
    works.alloc.state ≠ .running := by decide

/-- The settings of 4.10 and 5.8 are in range. -/
theorem plant_inRange : plantInRange at7200.t4 at7200.t5 at7200.t6 at7200.t7 := by
  unfold plantInRange BoilerSetting.inRange TurbineSetting.inRange ExchangerSetting.inRange FlareSetting.inRange
  decide

/-- Two boilers of one class in the fill, with fuel for both; a share that the headroom caps, and one that it does not;
fuel left over. -/
theorem witness_FillConserves : (∀ e ∈ at7200.t4, e.inRange) ∧
    (let boilers : List FillBoiler := [⟨0, 1, 8000, 30000, 50, 88⟩, ⟨1, 1, 8000, 30000, 30, 86⟩]
     let grants := [8000, 8000, 0, 0, 0, 0]
     (boilers.map fun b => b.number).Nodup ∧ (∀ b ∈ boilers, b.number < grants.length) ∧
       (boilers.filter fun b => 0 < grants.getD b.number 0 && grants.getD b.number 0 < b.fmax) = boilers ∧
       30000 - 8000 < 40000 * 50 / 80 ∧ 8000 * 50 / 80 ≤ 30000 - 8000) ∧
    (let n := { at7200 with t4 := List.replicate 6 (boiler 1 1000 2000 50 88) }
     (∀ e ∈ n.t4, e.inRange) ∧ 0 < (compute n 1000).excess) := by
  refine ⟨plant_inRange.1, by decide, ?_, by decide⟩
  unfold BoilerSetting.inRange
  decide

theorem witness_PoolSplit : (compute at7200 1000).mode = .heatFirst ∧
    (compute { at7200 with mode := .powerFirst } 1000).mode = .powerFirst ∧
    (let m := compute { at7200 with requests := [100, 0, 0, 0] } 1000
     0 < m.turbine ∧ m.demand + m.turbineNeed ≤ m.pool) ∧
    (let m := compute at7200 1000
     m.pool < m.demand + m.turbineNeed ∧ 0 < m.pool ∧ 0 < m.demand ∧ 0 < m.turbineNeed) := by decide

/-- Town heat from both origins, from recovery alone, and none; a shortfall with purchase left. -/
theorem witness_TopUpAndShares : (∀ e ∈ at7200.t4, e.inRange) ∧ 974 ≤ 1000 ∧
    (let m := compute { at7200 with requests := [100, 0, 0, 0] } 974
     m.topHeat = 0 ∧ 0 < m.heat) ∧
    (let m := compute { at7200 with requests := [0, 0, 0, 0] } 974
     m.heat + m.topHeat = 0) ∧
    (let n := { at7200 with
       t6 := List.replicate 4 (exchanger 100000), requests := List.replicate 4 100000
       t8 := { at7200.t8 with purchaseLimit := 1000000 } }
     let m := compute n 974
     n.mode = .heatFirst ∧ n.t8.topUp = true ∧ 0 < m.shortfall ∧ m.topUp.sum < n.t8.purchaseLimit) :=
  ⟨plant_inRange.1, by decide, by decide, by decide, by decide⟩

theorem witness_GrantsWithinMaximum : plantInRange at7200.t4 at7200.t5 at7200.t6 at7200.t7 := plant_inRange

/-- START-ALLOCATION with every condition holding, off the line and with record 0 on it, with none, and RUNNING. -/
theorem witness_StartAllocation :
    (Waiting (asking 201 [8] works) ⟨201, 7, [8]⟩ [] 8 [] ∧ works.classOf 201 = some .engineer ∧
      works.alloc.state = .stopped ∧ startUnmet works = [] ∧ works.governor.onLine ≠ some 0) ∧
    startUnmet { works with governor := { works.governor with onLine := some 0 } } = [] ∧
    startUnmet State.reset = [1, 2, 3, 4, 5] ∧ running.alloc.state ≠ .stopped :=
  ⟨⟨waiting _ _ 8 [] rfl (by decide) (by decide), by decide, by decide, by decide, by decide⟩, by decide, by decide, by decide⟩

theorem witness_StopAllocation :
    (Waiting (asking 201 [9] running) ⟨201, 7, [9]⟩ [] 9 [] ∧ running.classOf 201 = some .engineer ∧
      running.alloc.state = .running ∧ running.alloc.period = some ⟨10, 96000⟩ ∧
      running.tracker.block = some (blockOf 22 12000 2000 0 1796) ∧ running.tracker.queue.length < 16) ∧
    works.alloc.state ≠ .running :=
  ⟨⟨waiting _ _ 9 [] rfl (by decide) (by decide), by decide, by decide, by decide, by decide, by decide⟩, by decide⟩

/-! ### The trip latch -/

/-- The works TRIPPED by its safety input, with the gas inputs sound and the ring closed. -/
def tripped : State := { raiseCause .safety running with
  port := { running.port with ringState := .closed }
  records := (List.range 6).foldl (fun l r => l.set r ⟨100, .good, some 99000, none, false⟩) running.records }

/-- Mode codes 0, 1 and 2, from an operator and an engineer; RESUME with every condition holding, and with none. -/
theorem witness_ModeAndResume :
    (∀ code ∈ ([0, 1, 2] : List Byte), Waiting (asking 202 [10, code] works) ⟨202, 7, [10, code]⟩ [] 10 [code]) ∧
    works.classOf 202 = some .operator ∧
    (Waiting (asking 201 [12] tripped) ⟨201, 7, [12]⟩ [] 12 [] ∧ tripped.classOf 201 = some .engineer ∧
      resumeUnmet tripped = []) ∧ resumeUnmet works = [1, 3, 4] :=
  ⟨fun code _ => waiting _ _ 10 [code] rfl (by decide) (by decide), by decide,
    ⟨waiting _ _ 12 [] rfl (by decide) (by decide), by decide, by decide⟩, by decide⟩

/-- Each cause in the set, and out of it while STOPPED and while RUNNING; the TRIP request in each case. -/
theorem witness_TripRequest :
    (∀ s ∈ [works, running, raiseCause .manual works],
      Waiting (asking 201 [11] s) ⟨201, 7, [11]⟩ [] 11 [] ∧ s.classOf 201 = some .engineer) ∧
    (∀ c ∈ [Cause.lowLow0, .lowLow1, .safety, .manual],
      (∃ e ∈ (raiseCause c works).latch.causes, e.cause = c) ∧ (¬ ∃ e ∈ works.latch.causes, e.cause = c) ∧
      ¬ ∃ e ∈ running.latch.causes, e.cause = c) ∧ running.alloc.state = .running ∧
    works.alloc.state ≠ .running := by
  refine ⟨?_, by decide, by decide, by decide⟩
  intro s h
  have h : s = works ∨ s = running ∨ s = raiseCause .manual works := by simpa using h
  rcases h with rfl | rfl | rfl <;> exact ⟨waiting _ _ 11 [] rfl (by decide) (by decide), by decide⟩

/-! ### Export -/

/-- A boundary within the block and one past it; wanted rates inside the correction limits, below and above them. -/
theorem witness_ExportAccounted :
    (let b := blockOf 22 12000 2000 0 1796
     running.tracker.block = some b ∧ b.index = running.clock.seconds / 1800 ∧ b.day = running.clock.day ∧
       0 < 10 - running.tracker.attributed ∧ b.elapsed + (10 - running.tracker.attributed) ≤ 65535) ∧
    (let b := blockOf 21 12000 2000 0 1796
     ¬ (b.index = running.clock.seconds / 1800 ∧ b.day = running.clock.day) ∧
       running.tracker.queue.length < 16 ∧ b.elapsed + 10 ≤ 65535) ∧
    (let b := blockOf 20 12000 2000 44000 4
     b.entry = some ⟨12000, 2000⟩ ∧ Int.tdiv ((12000 : Int) * 1800 - b.delivered) (1796 : Nat) = 12002 ∧
       1800 - b.elapsed = 1796) ∧
    Int.tdiv ((12000 : Int) * 1800 - 22000000) (10 : Nat) < 12000 - 3000 ∧
    12000 + 3000 < Int.tdiv ((12000 : Int) * 1800 - 20700000) (10 : Nat) := by decide

/-- A queue with room and a full one; a block with and without a schedule entry. -/
theorem witness_SettlementAppended : running.tracker.queue.length ≤ 16 ∧
    (List.replicate 16 (settle (blockOf 20 12000 2000 0 1800) 311 0)).length = 16 ∧
    (blockOf 20 12000 2000 0 1800).entry = some ⟨12000, 2000⟩ := by decide

/-- One settlement record, fetched, released by its number 311 and by another, from the billing station. -/
def settled : State := { works with tracker := { works.tracker with
  queue := [settle (blockOf 20 12000 2000 20787000 1800) 311 0] } }

theorem witness_SettlementFetched : settled.classOf 203 = some .billing ∧ works.tracker.queue = [] ∧
    settled.tracker.queue = settle (blockOf 20 12000 2000 20787000 1800) 311 0 :: [] ∧
    Waiting (asking 203 [18] settled) ⟨203, 7, [18]⟩ [] 18 [] ∧
    Waiting (asking 203 [19, 1, 55] settled) ⟨203, 7, [19, 1, 55]⟩ [] 19 [1, 55] ∧
    (311 = (1 : Byte).toNat * 256 + (55 : Byte).toNat ∧ 311 ≠ (1 : Byte).toNat * 256 + (56 : Byte).toNat) :=
  ⟨by decide, by decide, by decide, waiting _ _ 18 [] rfl (by decide) (by decide),
    waiting _ _ 19 [1, 55] rfl (by decide) (by decide), by decide⟩

/-! ### Sweeps -/

/-- The works sweeping accounts 0 to 2 with the cursor at one of them. -/
def sweepingAt (cursor : Nat) : State := { works with sweep := { works.sweep with
  state := .sweeping, number := 41, copy := ⟨.oneShot, 0, 2, 600⟩, cursor := cursor } }

/-- One poll of account 0 away since 100 000 ms with sequence 0x40, on its first attempt. -/
def polled : State := { sweepingAt 1 with sweep := { (sweepingAt 1).sweep with
  entries := [⟨0, 50, .away 0x40 100000, 1⟩] } }

/-- START-SWEEP in IDLE with the clock VALID and INVALID, on accounts 0 to 0 and on ones with none enabled, and while
sweeping; STOP-SWEEP in each state. -/
theorem witness_SweepCommands :
    (Waiting (asking 202 [13] works) ⟨202, 7, [13]⟩ [] 13 [] ∧ works.classOf 202 = some .operator ∧
      works.sweep.state = .idle ∧ works.clock.state = .valid ∧
      ∃ a < 96, works.tables.t13.first ≤ a ∧ a ≤ works.tables.t13.first ∧ (works.accountSetting a).enabled = true) ∧
    (State.reset.sweep.state = .idle ∧ State.reset.clock.state ≠ .valid) ∧
    (∀ a < 96, 0 ≤ a → a ≤ 0 → (State.reset.accountSetting a).enabled = false) ∧
    (Waiting (asking 202 [14] polled) ⟨202, 7, [14]⟩ [] 14 [] ∧ polled.sweep.state = .sweeping ∧
      polled.sweep.entries ≠ []) ∧
    ((sweepingAt 1).sweep.state = .sweeping ∧ (sweepingAt 1).sweep.entries = []) ∧
    ({ works.sweep with state := .waiting } : Sweep).state = .waiting ∧
    ({ works.sweep with state := .stopping } : Sweep).state = .stopping :=
  ⟨⟨waiting _ _ 13 [] rfl (by decide) (by decide), by decide, by decide, by decide, 0, by decide⟩, by decide, by decide,
    ⟨waiting _ _ 14 [] rfl (by decide) (by decide), by decide, by decide⟩, by decide, by decide, by decide⟩

/-- Account 0 with an admitted meter, account 1 with an ignored one, account 2 disabled; room and none; a retry. -/
theorem witness_PollsPlaced :
    (∀ c ∈ [0, 1, 2], (sweepingAt c).outOfReset = true ∧ (sweepingAt c).sweep.state = .sweeping ∧
      (sweepingAt c).sweep.pastEnd = false) ∧
    (((sweepingAt 0).accountSetting 0).enabled = true ∧
      bindingAt works.bindings .heatMeter (works.accountSetting 0).meter = some ⟨50, .heatMeter, 0, false⟩ ∧
      (sweepingAt 0).sweep.entries.length < 4 ∧ (sweepingAt 0).freeSlot .poll = true ∧
      (sweepingAt 0).sweep.retries = []) ∧
    ((works.accountSetting 1).enabled = true ∧
      bindingAt works.bindings .heatMeter (works.accountSetting 1).meter = some ⟨51, .heatMeter, 1, true⟩) ∧
    (works.accountSetting 2).enabled = false ∧
    ¬ (List.replicate 4 (⟨0, 50, .queued, 1⟩ : PollEntry)).length < 4 ∧
    (let s : State := { polled with sweep := { polled.sweep with retries := [0] } }
     s.sweep.retries = 0 :: [] ∧ s.sweep.entries.find? (fun x => x.account == 0) = some ⟨0, 50, .away 0x40 100000, 1⟩ ∧
       s.freeSlot .poll = true ∧
       ({ s with port := { s.port with insertion := List.replicate 4 ⟨.poll, 50, 3, [], none, false⟩ } } : State).freeSlot
         .poll = false) := by decide

/-- An away poll with attempts left and with none; SWEEPING and STOPPING; the interval timer in WAITING on accounts
enabled and not. -/
theorem witness_SweepTimersExpire :
    (polled.outOfReset = true ∧
      polled.sweep.entries.find? (fun x => x.account == 0) = some ⟨0, 50, .away 0x40 100000, 1⟩ ∧
      polled.sweep.state = .sweeping ∧ 1 < 1 + polled.tables.t13.retryLimit ∧
      bindingAt polled.bindings .heatMeter (polled.accountSetting 0).meter = some ⟨50, .heatMeter, 0, false⟩) ∧
    ¬ 3 < 1 + polled.tables.t13.retryLimit ∧
    ({ polled.sweep with state := .stopping } : Sweep).state = .stopping ∧
    (let w : Sweep := { works.sweep with state := .waiting, copy := ⟨.repeating, 0, 2, 600⟩, intervalDue := some 700000 }
     w.intervalDue = some 700000 ∧ w.state = .waiting ∧
       ∃ a < 96, w.copy.first ≤ a ∧ a ≤ w.copy.last ∧ (works.accountSetting a).enabled = true) ∧
    (∀ a < 96, 2 ≤ a → a ≤ 5 → (works.accountSetting a).enabled = false) := by
  refine ⟨by decide, by decide, by decide, ⟨by decide, by decide, 0, by decide⟩, by decide⟩

/-- A reply that is late, one that is sound at either end of the register's range, and one that is not; an account in
each state, at its seventh and eighth miss. -/
theorem witness_MeterReplyJudged :
    (∀ e ∈ works.sweep.entries, e.station = 50 → ∀ d, e.phase ≠ .away 0x41 d) ∧
    matchingEntry polled 50 0x40 = some ⟨0, 50, .away 0x40 100000, 1⟩ ∧
    (lastOnChannel [⟨1, 0, 99999999⟩, ⟨2, 0, 0⟩] 1 = some 99999999 ∧
      lastOnChannel [⟨1, 0, 99999999⟩, ⟨2, 0, 0⟩] 2 = some 0) ∧
    lastOnChannel [⟨1, 0, 0⟩, ⟨2, 0, 3⟩] 2 ≠ some 0 ∧ 0 < works.billing.accounts.length ∧
    (works.account 0).state = .disabled ∧
    ({ Account.initial with state := .active, misses := 6 } : Account).misses < 7 ∧
    7 ≤ ({ Account.initial with state := .unread, misses := 7 } : Account).misses ∧
    ({ Account.initial with state := .silent } : Account).state = .silent :=
  ⟨fun e h => absurd h (by simp [works, State.reset, State.atReset, Sweep.initial]), by decide, by decide, by decide,
    by decide, by decide, by decide, by decide, by decide⟩

/-- A sweep past its end, one that overran, one with polls outstanding, and a stopping engine. -/
theorem witness_SweepEnds :
    ((sweepingAt 3).sweep.entries = [] ∧ (sweepingAt 3).sweep.state = .sweeping ∧
      (sweepingAt 3).sweep.copy.last < (sweepingAt 3).sweep.cursor ∧
      ¬ ((sweepingAt 3).sweep.copy.mode = .repeating ∧ (sweepingAt 3).sweep.overrun = true)) ∧
    (let w : Sweep := { (sweepingAt 3).sweep with copy := ⟨.repeating, 0, 2, 600⟩, overrun := true }
     w.copy.mode = .repeating ∧ w.overrun = true ∧ w.copy.last < w.cursor ∧
       ∃ a < 96, w.copy.first ≤ a ∧ a ≤ w.copy.last ∧ ((sweepingAt 3).accountSetting a).enabled = true) ∧
    polled.sweep.entries ≠ [] ∧ ¬ (sweepingAt 2).sweep.copy.last < (sweepingAt 2).sweep.cursor ∧
    (∀ a < 96, 2 ≤ a → a ≤ 95 → (works.accountSetting a).enabled = false) := by
  refine ⟨by decide, ⟨by decide, by decide, by decide, 0, by decide⟩, by decide, by decide, by decide⟩

/-! ### Billing -/

/-- Account 20 of 10.6 with its baseline; a reading at the limit of 167 kWh, and one past it. -/
theorem witness_ReadingTaken :
    (account20.billing.accounts.length = 96 ∧ 0 < 96 ∧ (account20.accountSetting 0).enabled = true ∧
      (account20.account 0).baseline = some ⟨1234567, 90000000, 10200000000, 160000000⟩ ∧
      (account20.account 0).implausible < 3 ∧ (account20.account 0).energies.length = 8) ∧
    (let limit := ((account20.accountSetting 0).rate * ((90600000 - 90000000) / 1000) * 5 + 14399) / 14400
     limit = 167 ∧ 1234734 - 1234567 ≤ limit ∧ limit < 1234735 - 1234567) ∧
    account20.tables.t10.getD (48 * DayType.workday.code + 30000 / 1800) 0 < 4 ∧
    ((works.accountSetting 0).enabled = true ∧ (works.account 0).baseline = none) ∧
    3 ≤ ({ account20.account 0 with implausible := 3 } : Account).implausible := by decide

def anyRecord : BillingRecord := ⟨0, 57, none, none, .active, List.replicate 8 0, List.replicate 8 0, 0, .cleared⟩

/-- The works with some billing records queued. -/
def billed (n : Nat) : State := { works with billing := { works.billing with queue := List.replicate n anyRecord } }

/-- Two accounts are enabled: 190 queued records leave room for a close, and 191 do not. -/
theorem witness_ClosePeriod :
    (Waiting (asking 203 [15] (billed 190)) ⟨203, 7, [15]⟩ [] 15 [] ∧ (billed 190).classOf 203 = some .billing ∧
      (billed 190).tables.t12.length = 96 ∧ (billed 190).billing.accounts.length = 96) ∧
    (billed 190).billing.queue.length + (works.tables.t12.countP fun e => e.enabled) ≤ 192 ∧
    192 < (billed 191).billing.queue.length + (works.tables.t12.countP fun e => e.enabled) ∧
    ¬ 144 ≤ (billed 142).billing.queue.length + 1 ∧ 144 ≤ (billed 143).billing.queue.length + 1 :=
  ⟨⟨waiting _ _ 15 [] rfl (by decide) (by decide), by decide, by decide, by decide⟩, by decide, by decide, by decide, by decide⟩

/-- Parts 0, 1 and 2 of the oldest record; its release by its own name, close 57 and account 0, and by another. -/
theorem witness_BillingFetched : (billed 1).classOf 203 = some .billing ∧ works.billing.queue = [] ∧
    (billed 1).billing.queue = anyRecord :: [] ∧
    (∀ part ∈ ([0, 1, 2] : List Byte), Waiting (asking 203 [16, part] (billed 1)) ⟨203, 7, [16, part]⟩ [] 16 [part]) ∧
    ((1 : Byte).toNat ≤ 1 ∧ 1 < (2 : Byte).toNat) ∧
    Waiting (asking 203 [17, 0, 57, 0] (billed 1)) ⟨203, 7, [17, 0, 57, 0]⟩ [] 17 [0, 57, 0] ∧
    (anyRecord.closeNumber = (0 : Byte).toNat * 256 + (57 : Byte).toNat ∧ anyRecord.account = (0 : Byte).toNat) ∧
    anyRecord.account ≠ (1 : Byte).toNat :=
  ⟨by decide, by decide, by decide, fun part _ => waiting _ _ 16 [part] rfl (by decide) (by decide), by decide,
    waiting _ _ 17 [0, 57, 0] rfl (by decide) (by decide), by decide, by decide⟩

/-! ### Requests -/

/-- Codes 0, 20, 1 and 19; an operator who asks for START-ALLOCATION; a full reply quota; the open state, and a works
with management of each class at a station of its own, one that is ignored, another role, and an unbound station. -/
theorem witness_RequestsRefused :
    ((asking 202 [8] works).outOfReset = true ∧ (asking 202 [8] works).mgmt.queue = ⟨202, 7, [8]⟩ :: [] ∧
      (asking 202 [8] works).freeSlot .reply = true ∧ works.mgmt.resetStage = .none ∧
      works.classOf 202 ≠ some .engineer) ∧
    ((0 : Byte).toNat = 0 ∧ 19 < (20 : Byte).toNat ∧ 1 ≤ (1 : Byte).toNat ∧ (19 : Byte).toNat ≤ 19) ∧
    ({ works with port := { works.port with
      insertion := List.replicate 8 ⟨.reply, 201, 5, [1, 0], some 9, false⟩ } } : State).freeSlot .reply = false ∧
    (∀ b ∈ State.reset.bindings, b.role.mgmtClass = none) ∧
    (∀ b ∈ works.bindings, ∀ c ∈ works.bindings, c.station = b.station → c = b) ∧
    (∀ role ∈ [Role.mgmtOperator, .mgmtEngineer, .mgmtBilling, .boiler], ∃ b ∈ works.bindings, b.role = role ∧
      b.ignore = false) ∧
    (∃ b ∈ works.bindings, b.ignore = true) ∧ ∀ b ∈ works.bindings, b.station ≠ 99 := by decide

/-- A READ with a count of 9, a WRITE of an entry a byte too long, and a WRITE that names table 15. -/
theorem witness_MalformedRefused :
    Waiting (asking 202 [1, 2, 0, 9] works) ⟨202, 7, [1, 2, 0, 9]⟩ [] 1 [2, 0, 9] ∧
    (works.classOf 202 = some .operator ∧ 8 < (([2, 0, 9] : List Byte).getD 2 0).toNat) ∧
    Waiting (asking 201 [3, 2, 0, 0, 1, 2, 3] works) ⟨201, 7, [3, 2, 0, 0, 1, 2, 3]⟩ [] 3 [2, 0, 0, 1, 2, 3] ∧
    (works.classOf 201 = some .engineer ∧ (6 - 3) % 2 ≠ 0) ∧
    Waiting (asking 201 [3, 15, 0, 0] works) ⟨201, 7, [3, 15, 0, 0]⟩ [] 3 [15, 0, 0] ∧ 14 < (15 : Byte).toNat :=
  ⟨waiting _ _ 1 [2, 0, 9] rfl (by decide) (by decide), by decide,
    waiting _ _ 3 [2, 0, 0, 1, 2, 3] rfl (by decide) (by decide), by decide,
    waiting _ _ 3 [15, 0, 0] rfl (by decide) (by decide), by decide⟩

/-- A READ of T2 at its last entry, past it, and of no table; counts 1 and 8; READ-ON with no cursor; values at the ends
of the ranges of fields. -/
theorem witness_Reads :
    (255 < 256 ^ 1 ∧ 18446744073709551615 < 256 ^ 8) ∧ (-2147483648 : Int) ≤ 2147483647 ∧ 24 ≤ 255 ∧
    (works.classOf 202 = some .operator ∧ 1 ≤ (1 : Byte).toNat ∧ (8 : Byte).toNat ≤ 8) ∧
    Waiting (asking 202 [1, 2, 2, 8] works) ⟨202, 7, [1, 2, 2, 8]⟩ [] 1 [2, 2, 8] ∧
    (∃ es, tableEntries works 2 = some es ∧ 2 < es.length ∧ es.length ≤ 3) ∧ tableEntries works 255 = none ∧
    Waiting (asking 202 [2, 1] works) ⟨202, 7, [2, 1]⟩ [] 2 [1] ∧
    (works.mgmt.cursors.find? fun y => y.station == 202).getD ⟨202, 0, 0⟩ = ⟨202, 0, 0⟩ ∧
    (tableEntries works 0).isSome = true :=
  ⟨by decide, by decide, by decide, by decide, waiting _ _ 1 [2, 2, 8] rfl (by decide) (by decide), ⟨_, rfl, by decide, by decide⟩, by decide,
    waiting _ _ 2 [1] rfl (by decide) (by decide), by decide, by decide⟩

/-- A request that writes entries with fields `fs` of widths `ws`. -/
def writing (station : Byte) (table index : Nat) (ws : List Nat) (fs : List (List Nat)) (s : State) : State :=
  asking station (3 :: writeOperands table index (fs.map (fieldBytes ws))) s

theorem writing_waits (station : Byte) (table index : Nat) (ws : List Nat) (fs : List (List Nat)) (s : State)
    (released : s.outOfReset = true) (slot : s.freeSlot .reply = true) (serving : s.mgmt.resetStage = .none) :
    Waiting (writing station table index ws fs s)
      ⟨station, 7, 3 :: writeOperands table index (fs.map (fieldBytes ws))⟩ [] 3
      (writeOperands table index (fs.map (fieldBytes ws))) :=
  waiting s station 3 _ released slot serving

/-- T2's last entry written at the end of its range and past it, and a write past the table; entries at the end of the
ranges of T1, T3, T9, T10 and T11. -/
theorem witness_PlainTablesWritten :
    (Waiting (writing 201 2 2 [2] [[40000]] works) ⟨201, 7, 3 :: writeOperands 2 2 [fieldBytes [2] [40000]]⟩ [] 3
        (writeOperands 2 2 [fieldBytes [2] [40000]]) ∧ works.classOf 201 = some .engineer ∧
      fieldsFit [2] [40000] ∧ 2 + 1 ≤ tableLength 2 ∧ tableLength 2 < 3 + 1 ∧ ¬ 40001 ≤ 40000) ∧
    InputSetting.status.inRange 30 ∧ InputSetting.measurement.inRange 0 ∧ holder0.inRange 0 ∧
    (HolderSetting.inRange 1 ⟨100, 200, 800, 1000, 100, 1000, 10000, 500000, 300, 600, 3600⟩) ∧
    works.classOf 203 = some .billing ∧ fieldsFit [1, 4, 2] [1, 400000, 50000] ∧ fieldsFit [1] [3] ∧
    fieldsFit [4] [10000000] := by
  refine ⟨⟨writing_waits 201 2 2 [2] [[40000]] works rfl (by decide) (by decide), by decide, ?_, by decide, by decide,
    by decide⟩, ?_, ?_, ?_, ?_, by decide, ?_, ?_, ?_⟩ <;>
    first | (unfold fieldsFit; simp) | (unfold InputSetting.inRange; decide) | (unfold HolderSetting.inRange; decide)

/-- The settings of 4.10 and 5.8, and entries of T8, T13 and T14 at the ends of their ranges. -/
theorem witness_PlantTablesWritten :
    (Waiting (writing 201 7 0 [4, 1, 4, 4] [[15000, 2, 100000, 15000]] works)
        ⟨201, 7, 3 :: writeOperands 7 0 [fieldBytes [4, 1, 4, 4] [15000, 2, 100000, 15000]]⟩ [] 3
        (writeOperands 7 0 [fieldBytes [4, 1, 4, 4] [15000, 2, 100000, 15000]]) ∧
      works.classOf 201 = some .engineer ∧ fieldsFit [4, 1, 4, 4] [15000, 2, 100000, 15000] ∧
      FlareSetting.inRange ⟨15000, .replace, 100000, 15000⟩ ∧ 0 + 1 ≤ tableLength 7) ∧
    plantInRange at7200.t4 at7200.t5 at7200.t6 at7200.t7 ∧ AllocSetting.inRange ⟨60, 45, 100000, true, 1000000⟩ ∧
    SweepSetting.inRange ⟨.repeating, 0, 95, 86400, 3⟩ ∧ NoticeSetting.inRange works ⟨201, 0x3FFE⟩ := by
  refine ⟨⟨writing_waits 201 7 0 [4, 1, 4, 4] [[15000, 2, 100000, 15000]] works rfl (by decide) (by decide), by decide,
    ?_, ?_, by decide⟩, plant_inRange, ?_, ?_, ?_⟩ <;>
    first | (unfold fieldsFit; simp) | (unfold FlareSetting.inRange; decide) | (unfold AllocSetting.inRange; decide) |
      (unfold SweepSetting.inRange; decide) | (unfold NoticeSetting.inRange; decide)

/-- The boiler of station 41 moved to station 42 in entry 6 of T0: taken while STOPPED, and a governed rebinding while
RUNNING; and the engineer of entry 0 moved to station 204, which the guard refuses. -/
theorem witness_StationsWritten :
    (Waiting (writing 201 0 6 [1, 1, 1, 1] [[42, 4, 0, 0]] works)
        ⟨201, 7, 3 :: writeOperands 0 6 [fieldBytes [1, 1, 1, 1] [42, 4, 0, 0]]⟩ [] 3
        (writeOperands 0 6 [fieldBytes [1, 1, 1, 1] [42, 4, 0, 0]]) ∧
      works.classOf 201 = some .engineer ∧ fieldsFit [1, 1, 1, 1] [42, 4, 0, 0] ∧ 6 + 1 ≤ 128 ∧
      carriesBinding works [42, 4, 0, 0] (some ⟨42, .boiler, 0, false⟩)) ∧
    (let after := written works.tables.t0 6 [some ⟨42, .boiler, 0, false⟩]
     let bs := after.filterMap id
     ¬ 4 < (bs.filter fun b => b.role.mgmtClass.isSome).length ∧ bindingsDistinct bs ∧
       ¬ (¬ engineerLeft bs ∨ lastEngineerMove works.tables.t0 after) ∧
       after[6]? = some (some ⟨42, .boiler, 0, false⟩)) ∧
    lastEngineerMove works.tables.t0 (written works.tables.t0 0 [entry 204 .mgmtEngineer 0]) ∧
    works.alloc.state = .stopped ∧ running.alloc.state ≠ .stopped ∧
    governedRebound (entry 41 .boiler 0) (some ⟨42, .boiler, 0, false⟩) := by
  refine ⟨⟨writing_waits 201 0 6 [1, 1, 1, 1] [[42, 4, 0, 0]] works rfl (by decide) (by decide), by decide, ?_, by decide,
    ?_⟩, ⟨by decide, ?_, guardOk_iff.mp (by decide), by decide⟩,
    lastEngineerMoved_iff.mp (by decide), by decide, by decide, ?_⟩
  · unfold fieldsFit; simp
  · exact ⟨0, rfl, by decide, by decide, by decide, (⟨by decide, rfl⟩ : 0 < 6 ∧ 0 = 0)⟩
  · unfold bindingsDistinct; decide
  · exact ⟨.inl ⟨_, rfl, rfl⟩, by decide⟩

/-- Account 0 disabled, account 1 moved to meter 2, account 2 enabled on meter 1; and a meter index named twice. -/
theorem witness_AccountsWritten :
    (let fs := [[0, 0, 0], [1, 2, 400], [1, 1, 50000]]
     Waiting (writing 201 12 0 [1, 1, 2] fs works)
        ⟨201, 7, 3 :: writeOperands 12 0 (fs.map (fieldBytes [1, 1, 2]))⟩ [] 3
        (writeOperands 12 0 (fs.map (fieldBytes [1, 1, 2]))) ∧
      works.classOf 201 = some .engineer ∧ (∀ f ∈ fs, fieldsFit [1, 1, 2] f)) ∧
    (AccountSetting.inRange ⟨false, 0, 0⟩ ∧ AccountSetting.inRange ⟨true, 2, 400⟩ ∧
      AccountSetting.inRange ⟨true, 95, 50000⟩) ∧
    ((([⟨false, 0, 0⟩, ⟨true, 2, 400⟩, ⟨true, 1, 50000⟩] : List AccountSetting).filter fun e => e.enabled).map
      fun e => e.meter).Nodup ∧
    (¬ ((([⟨true, 1, 800⟩, ⟨true, 1, 400⟩] : List AccountSetting).filter fun e => e.enabled).map fun e => e.meter).Nodup) ∧
    works.tables.t12.length = 96 ∧ works.billing.accounts.length = 96 := by
  refine ⟨⟨writing_waits 201 12 0 [1, 1, 2] _ works rfl (by decide) (by decide), by decide, ?_⟩, ?_, by decide, by decide,
    by decide, by decide⟩
  · unfold fieldsFit; simp
  · unfold AccountSetting.inRange; decide

/-- An EXCHANGE of T2's entry 2 that expects what stands there, one that does not, and one past the table. -/
theorem witness_Exchanged :
    Waiting (asking 201 (4 :: writeOperands 2 2 [[0, 0], [1, 0]]) works)
      ⟨201, 7, 4 :: writeOperands 2 2 [[0, 0], [1, 0]]⟩ [] 4 (writeOperands 2 2 [[0, 0], [1, 0]]) ∧
    (works.classOf 201 = some .engineer ∧ entrySize 2 = some 2) ∧
    (∃ es, tableEntries works 2 = some es ∧ es.length = tableLength 2 ∧ es[2]? = some [0, 0] ∧ es[3]? = none ∧
      ([0, 1] : List Byte) ≠ [0, 0]) :=
  ⟨waiting _ _ 4 _ rfl (by decide) (by decide), by decide, ⟨_, rfl, by decide, by decide, by decide, by decide⟩⟩

/-- Thirteen counters, one of them at its top; the requests of READ-STATS, RESTART and RESET. -/
theorem witness_StatisticsRestartReset :
    (works.port.stats.length = 13 ∧ (List.replicate 12 0 ++ [4294967295]).length = 13) ∧
    (∀ p ∈ ([[5, 0], [5, 1], [6, 1], [6, 2], [6, 3]] : List (List Byte)), ∃ n x, p = [BitVec.ofNat 8 n, x] ∧
      Waiting (asking 201 p works) ⟨201, 7, p⟩ [] n [x]) ∧
    Waiting (asking 201 [7] works) ⟨201, 7, [7]⟩ [] 7 [] ∧ works.classOf 201 = some .engineer ∧
    (∀ n ∈ works.port.stats, n ≤ 4294967295) := by
  refine ⟨by decide, ?_, waiting _ _ 7 [] rfl (by decide) (by decide), by decide, by decide⟩
  intro p h
  have h : p = [5, 0] ∨ p = [5, 1] ∨ p = [6, 1] ∨ p = [6, 2] ∨ p = [6, 3] := by simpa using h
  rcases h with rfl | rfl | rfl | rfl | rfl
  · exact ⟨5, 0, rfl, waiting _ _ 5 [0] rfl (by decide) (by decide)⟩
  · exact ⟨5, 1, rfl, waiting _ _ 5 [1] rfl (by decide) (by decide)⟩
  · exact ⟨6, 1, rfl, waiting _ _ 6 [1] rfl (by decide) (by decide)⟩
  · exact ⟨6, 2, rfl, waiting _ _ 6 [2] rfl (by decide) (by decide)⟩
  · exact ⟨6, 3, rfl, waiting _ _ 6 [3] rfl (by decide) (by decide)⟩

/-- No destination, a disabled kind and an enabled one; a pending set that can be sent; an interval that runs. -/
theorem witness_NoticesGathered :
    State.reset.tables.t14.destination = 0 ∧
    (works.tables.t14.destination ≠ 0 ∧ works.tables.t14.enabled.getLsbD Notice.trip.code = true) ∧
    (let s := raiseCause .safety running
     s.outOfReset = true ∧ s.mgmt.notices.Pairwise (fun a b => a.1.code < b.1.code) ∧ s.mgmt.notices ≠ [] ∧
       s.freeSlot .notice = true ∧ s.mgmt.noticeDue = none ∧
       ∀ p ∈ s.mgmt.notices, -2147483648 ≤ p.2 ∧ p.2 ≤ 2147483647) ∧
    ({ works.mgmt with noticeDue := some 101000 } : Mgmt).noticeDue = some 101000 := by decide

/-! ### What every step keeps -/

/-- A DEMAND of 9000 to boiler 0 of the works RUNNING, on RING-OUT at the boiler's limit of 8049. -/
def sending : State := departTransit (forwarding { running with
  governor := { running.governor with
    grants := running.governor.grants.set 0 { GrantRecord.initial with grant := 8049, limit := 8049 } }
  pending := [.transitFrameLeft] } (buildFrame 41 60 2 0 7 0 ([1, 0] ++ setpointBytes 9000)) true)

theorem sending_steps : ∃ t, step sending = .next t := ⟨_, rfl⟩

theorem witness_CapacitiesKept : (∃ t, step sending = .next t) ∧ portLaw sending ∧ quotaLaw sending ∧
    capacityLaw sending := by
  refine ⟨sending_steps, ?_, ⟨?_, by decide⟩, ?_⟩
  · unfold portLaw; decide
  · intro q; cases q <;> decide
  · unfold capacityLaw; decide

theorem witness_TripLawKept : (∃ t, step sending = .next t) ∧ tripLaw sending ∧ causeLaw sending ∧
    tripLaw tripped ∧ causeLaw tripped := by
  refine ⟨sending_steps, ?_, ?_, ?_, ?_⟩ <;> first | (unfold tripLaw; decide) | (unfold causeLaw; decide)

theorem sending_onLine : sending.governor.onLine = some 0 := by decide

theorem witness_SetpointLawKept : (∃ t, step sending = .next t) ∧ lineLaw sending ∧ limitLaw sending ∧
    transitLaw sending ∧ setpointLaw sending ∧ sending.port.ringOut ≠ .flags := by
  have sent : ∃ b, sending.port.ringOut = .transit b ∧ demandSetpoint b = 8049 := ⟨_, rfl, by decide⟩
  have none : ∀ r ∈ sending.governor.grants, r.limit ≤ 1000000 ∧ r.pending = none := by decide
  obtain ⟨b, hb, hv⟩ := sent
  refine ⟨sending_steps, ⟨?_, fun _ => ⟨b, hb⟩⟩, ⟨?_, ?_, ?_⟩, ?_, ?_, by rw [hb]; exact RingOut.noConfusion⟩
  · intro k h
    have : (sending.grant k).pending = Option.none := by
      unfold State.grant
      by_cases hk : k < sending.governor.grants.length
      · rw [List.getD_eq_getElem _ _ hk]
        exact (none _ (List.getElem_mem hk)).2
      · rw [List.getD_eq_default _ _ (by omega)]
        rfl
    rw [this] at h
    cases h
  · unfold plantInRange BoilerSetting.inRange TurbineSetting.inRange ExchangerSetting.inRange FlareSetting.inRange
    decide
  · intro n h
    cases h
  · intro r hr
    refine ⟨(none r hr).1, fun p hp => ?_⟩
    rw [(none r hr).2] at hp
    cases hp
  · unfold transitLaw; decide
  · intro k bytes hk hout
    rw [sending_onLine] at hk
    cases hk
    rw [hb] at hout
    cases hout
    rw [hv]
    decide

theorem witness_SweepLawKept : (∃ t, step { polled with pending := [.replyTimerExpiry 0] } = .next t) ∧
    sweepLaw { polled with pending := [.replyTimerExpiry 0] } := by
  refine ⟨⟨_, rfl⟩, ?_⟩
  unfold sweepLaw
  decide

theorem witness_BlockStatesKept : (∃ t, step sending = .next t) ∧ blockLaw sending ∧ clockLaw sending ∧
    windowLaw sending ∧ originLaw sending ∧ stationLaw sending ∧ shapeLaw sending := by
  refine ⟨sending_steps, ?_, ?_, ?_, ?_, ?_, ?_⟩ <;>
    first | (unfold blockLaw; decide) | (unfold clockLaw; decide) | (unfold windowLaw; decide) |
      (unfold originLaw; decide) | (unfold stationLaw; decide) | (unfold shapeLaw; decide)

end Sys2Proof.Tests
end

section
/-! The Works Ring Port's reception: the line a flag ends, judged by R5, and the part's own frames stripped by R6. -/

namespace Sys2Proof.Machine

/-! ## FRAME_RECEIVED -/

theorem State.advanceTo_now_add (s : State) (ms : Nat) : s.advanceTo (s.now + ms) = s.later ms := by
  simp [State.advanceTo, State.later]

/-- R5: out of reset, a line that a flag opened is judged at the time its closing flag arrives. -/
theorem exec_frameReceived_opened {s : State} (released : s.outOfReset = true) (opened : s.port.flagSeen = true)
    (ms : Nat) (line : List Byte) :
    exec (.frameReceived ms line) s = .next (judgeLine line (s.later ms)) := by
  change act (s.advanceTo (s.now + ms)) (receive line) = _
  rw [State.advanceTo_now_add, act_running (by simpa using released), receive_opened (by simpa using opened)]

/-! ## The judgement of a line -/

section judgement

variable {line f : List Byte} {s : State}

theorem judgeLine_idle (ended : lineEnd line = .idle) : judgeLine line s = s := by
  simp [judgeLine, ended]

theorem judgeLine_aborted (ended : lineEnd line = .aborted) : judgeLine line s = s.count .abort := by
  simp [judgeLine, ended]

theorem judgeLine_badSize (ended : lineEnd line = .frame f) (size : sizeOk f = false) :
    judgeLine line s = s.count .size := by
  simp [judgeLine, ended, size]

theorem judgeLine_badHeader (ended : lineEnd line = .frame f) (size : sizeOk f = true) (header : headerOk f = false) :
    judgeLine line s = s.count .headerCheck := by
  simp [judgeLine, ended, size, header]

/-- R5, R6: of a frame that passes the size and the header check, its source decides who takes it. -/
theorem judgeLine_passed (ended : lineEnd line = .frame f) (size : sizeOk f = true) (header : headerOk f = true) :
    judgeLine line s = if frameSource f = s.pins.station then strip f s else takeForeign f s := by
  simp [judgeLine, ended, size, header]

end judgement

/-- R5: the ways a frame fails the size check. -/
theorem sizeOk_eq_false_iff (f : List Byte) :
    sizeOk f = false ↔ f.length < 8 ∨ 130 < f.length ∨ 120 < frameLength f ∨ (frameLength f = 0 ∧ f.length ≠ 8) ∨
      (1 ≤ frameLength f ∧ f.length ≠ 10 + frameLength f) ∨ frameSource f = 0 := by
  rw [← Bool.not_eq_true]
  simp only [sizeOk, Bool.and_eq_true, decide_eq_true_eq, bne_iff_ne, beq_iff_eq]
  by_cases source : frameSource f = 0
  · simp [source]
  · simp only [ne_eq, source, not_false_eq_true, and_true, or_false]
    split <;> omega

/-- R5: a frame fails the header check when bytes 6 and 7 are not the check of the six before them. -/
theorem headerOk_eq_false_iff (f : List Byte) :
    headerOk f = false ↔ be 2 (check (f.take 6)).toNat ≠ (f.drop 6).take 2 := by
  rw [headerOk, beq_eq_false_iff_ne, checkBytes]

/-! ## Own frames coming back -/

theorem State.isOwnSeq_iff (s : State) (seq : Byte) : s.isOwnSeq seq = true ↔ ∃ e ∈ s.port.ownSet, e.seq = seq := by
  simp [State.isOwnSeq]

theorem State.isOwnSeq_count (s : State) (c : Counter) (seq : Byte) : (s.count c).isOwnSeq seq = s.isOwnSeq seq := rfl

theorem State.isOwnSeq_later (s : State) (ms : Nat) (seq : Byte) : (s.later ms).isOwnSeq seq = s.isOwnSeq seq := rfl

/-- R7: the part once the payload check of a stripped frame is counted; a failed check strips the frame no less. -/
def strippedCounted (f : List Byte) (s : State) : State := if payloadOk f = true then s else s.count .payloadCheck

theorem strip_eq (f : List Byte) (s : State) :
    strip f s = if s.isOwnSeq (frameSeq f) then goodReturn (frameSeq f) (strippedCounted f s)
      else stationConflict (frameSeq f) (strippedCounted f s) := by
  unfold strip strippedCounted
  by_cases payload : payloadOk f = true
  · simp [payload]
  · simp [payload, State.isOwnSeq_count]

theorem strippedCounted_ownSet (f : List Byte) (s : State) : (strippedCounted f s).port.ownSet = s.port.ownSet := by
  unfold strippedCounted; split <;> rfl

theorem strippedCounted_ringState (f : List Byte) (s : State) :
    (strippedCounted f s).port.ringState = s.port.ringState := by
  unfold strippedCounted; split <;> rfl

/-- R14, R16: the part once the sequence of a good return has left the own-frame set and closed the ring. -/
def returned (seq : Byte) (s : State) : State :=
  let s1 := s.count .stripped
  { s1 with port := { s1.port with
    ownSet := s.port.ownSet.filter fun e => e.seq != seq, missCount := 0, ringState := .closed } }

/-- R16: a good return gives notice when it closes an OPEN ring. -/
theorem goodReturn_eq (seq : Byte) (s : State) :
    goodReturn seq s = if s.port.ringState = .open
      then (returned seq s).notice .ringRestored (((returned seq s).port.stats.getD 10 0 : Nat) : Int)
      else returned seq s := by
  by_cases ringOpen : s.port.ringState = .open
  · simp only [goodReturn, ringOpen, if_true]; rfl
  · simp only [goodReturn, ringOpen, if_false]; rfl

/-- R6: what a well-formed frame with the part's own source does. -/
theorem exec_ownFrame {s : State} {line f : List Byte} (good : GoodFrame s line f)
    (own : frameSource f = s.pins.station) (ms : Nat) :
    exec (.frameReceived ms line) s = .next (
      if s.isOwnSeq (frameSeq f) then goodReturn (frameSeq f) (strippedCounted f (s.later ms))
      else stationConflict (frameSeq f) (strippedCounted f (s.later ms))) := by
  obtain ⟨released, opened, ended, size, header⟩ := good
  rw [exec_frameReceived_opened released opened, judgeLine_passed ended size header, State.later_pins, if_pos own,
    strip_eq, State.isOwnSeq_later]

end Sys2Proof.Machine

namespace Sys2Proof.Proofs

open Sys2Proof.Machine

/-- Settles O8: one clause per outcome of the judgement of a line, the size check before the header check. -/
theorem receptionChecks : Obligations.ReceptionChecks := by
  intro s ms line released opened
  have judged := exec_frameReceived_opened released opened ms line
  refine ⟨fun ended => ?idle, fun ended => ?aborted, fun f ended => ⟨fun bad => ?size, fun fits bad => ?header⟩⟩
  case idle => rw [judged, judgeLine_idle ended]
  case aborted => rw [judged, judgeLine_aborted ended]
  case size => rw [judged, judgeLine_badSize ended ((sizeOk_eq_false_iff f).mpr bad)]
  case header =>
    have size : sizeOk f = true := by
      rw [← Bool.not_eq_false]
      exact fun failed => fits ((sizeOk_eq_false_iff f).mp failed)
    rw [judged, judgeLine_badHeader ended size ((headerOk_eq_false_iff f).mpr bad)]

/-- Settles O9: the own-frame set, which the payload check leaves alone, decides between the two ends of a stripped
frame. -/
theorem ownFrameStripped : Obligations.OwnFrameStripped := by
  intro s ms line f good own
  have stripped := exec_ownFrame good own ms
  refine ⟨fun known => ?goodReturn, fun unknown => ?conflict⟩
  case goodReturn =>
    rw [stripped, if_pos ((s.isOwnSeq_iff _).mpr known), goodReturn_eq, strippedCounted_ringState, returned,
      strippedCounted_ownSet]
    rfl
  case conflict =>
    have absent : ¬ s.isOwnSeq (frameSeq f) = true := fun known =>
      let ⟨e, member, same⟩ := (s.isOwnSeq_iff _).mp known
      unknown e member same
    rw [stripped, if_neg absent]
    rfl

end Sys2Proof.Proofs
end

section
/-! The Demand Governor: the fields of a frame the part builds, and an unusable DEMAND held at its limit (R105). -/

namespace Sys2Proof.Machine

/-! ## The frame that buildFrame gives -/

/-- R3: the six bytes that the header check covers. -/
def headerBytes (destination source : Byte) (kind tags : Nat) (seq spare : Byte) (payload : List Byte) : List Byte :=
  [destination, source, BitVec.ofNat 8 (kind * 8 + tags), seq, BitVec.ofNat 8 payload.length, spare]

@[simp] theorem checkBytes_length (bytes : List Byte) : (checkBytes bytes).length = 2 := be_length _ _

section built

variable (destination source : Byte) (kind tags : Nat) (seq spare : Byte) {payload : List Byte}

/-- R3: header, header check, payload, payload check. -/
theorem buildFrame_eq (filled : payload ≠ []) :
    buildFrame destination source kind tags seq spare payload =
      headerBytes destination source kind tags seq spare payload ++
        (checkBytes (headerBytes destination source kind tags seq spare payload) ++
          (payload ++ checkBytes payload)) := by
  simp [buildFrame, headerBytes, filled]

theorem frameDestination_buildFrame :
    frameDestination (buildFrame destination source kind tags seq spare payload) = destination := rfl

theorem frameSource_buildFrame :
    frameSource (buildFrame destination source kind tags seq spare payload) = source := rfl

theorem frameSeq_buildFrame : frameSeq (buildFrame destination source kind tags seq spare payload) = seq := rfl

theorem frameSpare_buildFrame : frameSpare (buildFrame destination source kind tags seq spare payload) = spare := rfl

theorem frameByte_two_buildFrame :
    frameByte (buildFrame destination source kind tags seq spare payload) 2 = BitVec.ofNat 8 (kind * 8 + tags) := rfl

theorem frameByte_four_buildFrame :
    frameByte (buildFrame destination source kind tags seq spare payload) 4 = BitVec.ofNat 8 payload.length := rfl

theorem frameKind_buildFrame (known : kind < 32) (few : tags < 8) :
    frameKind (buildFrame destination source kind tags seq spare payload) = kind := by
  rw [frameKind, frameByte_two_buildFrame, BitVec.toNat_ofNat]
  omega

theorem frameTags_buildFrame (few : tags < 8) :
    frameTags (buildFrame destination source kind tags seq spare payload) = tags := by
  rw [frameTags, frameByte_two_buildFrame, BitVec.toNat_ofNat]
  omega

theorem frameLength_buildFrame (short : payload.length ≤ 120) :
    frameLength (buildFrame destination source kind tags seq spare payload) = payload.length := by
  rw [frameLength, frameByte_four_buildFrame, BitVec.toNat_ofNat]
  omega

theorem drop_eight_buildFrame (filled : payload ≠ []) :
    (buildFrame destination source kind tags seq spare payload).drop 8 = payload ++ checkBytes payload := by
  rw [buildFrame_eq destination source kind tags seq spare filled, ← List.append_assoc]
  exact List.drop_left' (by simp [headerBytes])

theorem framePayload_buildFrame (filled : payload ≠ []) (short : payload.length ≤ 120) :
    framePayload (buildFrame destination source kind tags seq spare payload) = payload := by
  rw [framePayload, drop_eight_buildFrame _ _ _ _ _ _ filled, frameLength_buildFrame _ _ _ _ _ _ short, List.take_left]

theorem headerOk_buildFrame (filled : payload ≠ []) :
    headerOk (buildFrame destination source kind tags seq spare payload) = true := by
  have six : (headerBytes destination source kind tags seq spare payload).length = 6 := rfl
  rw [headerOk, buildFrame_eq destination source kind tags seq spare filled, List.take_left' six, List.drop_left' six,
    List.take_left' (checkBytes_length _), beq_self_eq_true]

theorem payloadOk_buildFrame (filled : payload ≠ []) (short : payload.length ≤ 120) :
    payloadOk (buildFrame destination source kind tags seq spare payload) = true := by
  rw [payloadOk, framePayload_buildFrame _ _ _ _ _ _ filled short, frameLength_buildFrame _ _ _ _ _ _ short,
    ← List.drop_drop, drop_eight_buildFrame _ _ _ _ _ _ filled, List.drop_left,
    List.take_of_length_le (checkBytes_length _).le, beq_self_eq_true, Bool.or_true]

theorem sizeOk_buildFrame (filled : payload ≠ []) (short : payload.length ≤ 120) (bound : source ≠ 0) :
    sizeOk (buildFrame destination source kind tags seq spare payload) = true := by
  have nonempty : payload.length ≠ 0 := by simpa using filled
  have size : (buildFrame destination source kind tags seq spare payload).length = 10 + payload.length := by
    rw [buildFrame_eq destination source kind tags seq spare filled]
    simp [headerBytes]
    omega
  rw [← Bool.not_eq_false, sizeOk_eq_false_iff, frameLength_buildFrame _ _ _ _ _ _ short, frameSource_buildFrame,
    size]
  simp only [bound, or_false]
  omega

end built

/-! ## The parts of a DEMAND -/

theorem frameSource_ne_zero {f : List Byte} (size : sizeOk f = true) : frameSource f ≠ 0 := fun zero => by
  simp [sizeOk, zero] at size

theorem framePayload_length {f : List Byte} (size : sizeOk f = true) : (framePayload f).length = frameLength f := by
  simp only [sizeOk, Bool.and_eq_true, decide_eq_true_eq, beq_iff_eq] at size
  obtain ⟨-, exact⟩ := size
  rw [framePayload, List.length_take, List.length_drop]
  split at exact <;> omega

theorem demandConsistent_iff (f : List Byte) :
    demandConsistent f = true ↔ frameTags f ≤ 3 ∧ frameLength f = 6 + 6 * frameTags f := by
  simp [demandConsistent]

theorem demandTags_length {f : List Byte} (size : sizeOk f = true) (consistent : demandConsistent f = true) :
    (demandTags f).length = 6 * frameTags f := by
  obtain ⟨-, layout⟩ := (demandConsistent_iff f).mp consistent
  rw [demandTags, List.length_take, framePayload_length size]
  omega

theorem layoutOk_demand {f : List Byte} (demand : frameKind f = 2) (station : Byte) :
    layoutOk station f = demandConsistent f := by
  simp [layoutOk, demand, kindSample, kindDemand]

/-! ## Setpoint bodies and tags -/

/-- The setpoints that 4 bytes in two's complement carry come back. -/
theorem toSigned_setpointBytes {v : Int} (low : -2147483648 ≤ v) (high : v ≤ 2147483647) :
    toSigned 4 (unbe (setpointBytes v)) = v := by
  rw [setpointBytes, unbe_be, toSigned]
  norm_num
  split <;> omega

@[simp] theorem setpointBytes_length (v : Int) : (setpointBytes v).length = 4 := be_length _ _

@[simp] theorem bodyBytes_length (channel flags : Byte) (v : Int) : (bodyBytes channel flags v).length = 6 := by
  simp [bodyBytes]

@[simp] theorem tagBytes_length (station : Byte) (reason : Nat) (v : Int) : (tagBytes station reason v).length = 6 := by
  simp [tagBytes]

theorem bodyBytes_eq (channel flags : Byte) {v : Int} (low : -2147483648 ≤ v) (high : v ≤ 2147483647) :
    bodyBytes channel flags v = [channel, flags] ++ setpointBytes v := by
  rw [bodyBytes, signedField_four ⟨low, high⟩]

/-- R4: the HELD tag carries no setpoint. -/
theorem tagBytes_held (station : Byte) : tagBytes station reasonHeld 0 = [station, 1, 0, 0, 0, 0] := by
  rw [tagBytes, field_eq (by decide), signedField_four (by decide)]
  rfl

/-! ## A DEMAND with a new payload -/

section rebuilt

variable {f before : List Byte} {tags : Nat} {channel flags : Byte} {v : Int}

/-- The payload of a DEMAND is its tags and its setpoint body: neither empty nor too long for a frame. -/
theorem demandPayload_length (tagged : before.length = 6 * tags) :
    (before ++ bodyBytes channel flags v).length = 6 + 6 * tags := by
  simp [tagged, Nat.add_comm]

theorem demandPayload_ne_nil : before ++ bodyBytes channel flags v ≠ [] := by
  simp [bodyBytes]

theorem demandPayload_short (few : tags ≤ 3) (tagged : before.length = 6 * tags) :
    (before ++ bodyBytes channel flags v).length ≤ 120 := by
  rw [demandPayload_length tagged]
  omega

theorem frameKind_rebuildDemand (few : tags ≤ 3) (payload : List Byte) :
    frameKind (rebuildDemand f tags payload) = 2 :=
  frameKind_buildFrame _ _ _ _ _ _ (by decide) (by omega)

theorem frameTags_rebuildDemand (few : tags ≤ 3) (payload : List Byte) :
    frameTags (rebuildDemand f tags payload) = tags :=
  frameTags_buildFrame _ _ _ _ _ _ (by omega)

theorem framePayload_rebuildDemand (few : tags ≤ 3) (tagged : before.length = 6 * tags) :
    framePayload (rebuildDemand f tags (before ++ bodyBytes channel flags v)) = before ++ bodyBytes channel flags v :=
  framePayload_buildFrame _ _ _ _ _ _ demandPayload_ne_nil (demandPayload_short few tagged)

theorem headerOk_rebuildDemand :
    headerOk (rebuildDemand f tags (before ++ bodyBytes channel flags v)) = true :=
  headerOk_buildFrame _ _ _ _ _ _ demandPayload_ne_nil

theorem payloadOk_rebuildDemand (few : tags ≤ 3) (tagged : before.length = 6 * tags) :
    payloadOk (rebuildDemand f tags (before ++ bodyBytes channel flags v)) = true :=
  payloadOk_buildFrame _ _ _ _ _ _ demandPayload_ne_nil (demandPayload_short few tagged)

theorem sizeOk_rebuildDemand (size : sizeOk f = true) (few : tags ≤ 3) (tagged : before.length = 6 * tags) :
    sizeOk (rebuildDemand f tags (before ++ bodyBytes channel flags v)) = true :=
  sizeOk_buildFrame _ _ _ _ _ _ demandPayload_ne_nil (demandPayload_short few tagged) (frameSource_ne_zero size)

theorem layoutOk_rebuildDemand (few : tags ≤ 3) (tagged : before.length = 6 * tags) (station : Byte) :
    layoutOk station (rebuildDemand f tags (before ++ bodyBytes channel flags v)) = true := by
  have length : frameLength (rebuildDemand f tags (before ++ bodyBytes channel flags v)) = 6 + 6 * tags :=
    (frameLength_buildFrame _ _ _ _ _ _ (demandPayload_short few tagged)).trans (demandPayload_length tagged)
  rw [layoutOk_demand (frameKind_rebuildDemand few _), demandConsistent_iff, frameTags_rebuildDemand few]
  exact ⟨few, length⟩

theorem demandSetpoint_rebuildDemand (few : tags ≤ 3) (tagged : before.length = 6 * tags)
    (low : -2147483648 ≤ v) (high : v ≤ 2147483647) :
    demandSetpoint (rebuildDemand f tags (before ++ bodyBytes channel flags v)) = v := by
  have body : demandBody (rebuildDemand f tags (before ++ bodyBytes channel flags v)) = bodyBytes channel flags v := by
    rw [demandBody, framePayload_rebuildDemand few tagged, frameTags_rebuildDemand few, List.drop_left' tagged]
  have field : ((bodyBytes channel flags v).drop 2).take 4 = setpointBytes v := by
    rw [bodyBytes_eq _ _ low high]
    exact List.take_of_length_le (setpointBytes_length v).le
  rw [demandSetpoint, body, field, toSigned_setpointBytes low high]

end rebuilt

/-! ## The held DEMAND (R105) -/

section held

variable {f : List Byte} (station : Byte) (limit : Nat)

theorem heldDemand_tagged (consistent : demandConsistent f = true) (room : frameTags f < 3) :
    heldDemand station f limit = rebuildDemand f (frameTags f + 1)
      ((tagBytes station reasonHeld 0 ++ demandTags f) ++ bodyBytes 1 0 limit) := by
  simp [heldDemand, consistent, room]

theorem heldDemand_tagFull (consistent : demandConsistent f = true) (full : frameTags f = 3) :
    heldDemand station f limit = rebuildDemand f 3 (demandTags f ++ bodyBytes 1 1 limit) := by
  simp [heldDemand, consistent, full]

theorem heldDemand_inconsistent (inconsistent : ¬ demandConsistent f = true) :
    heldDemand station f limit = rebuildDemand f 1 (tagBytes station reasonHeld 0 ++ bodyBytes 1 0 limit) := by
  simp [heldDemand, inconsistent]

theorem heldTags_length (size : sizeOk f = true) (consistent : demandConsistent f = true) :
    (tagBytes station reasonHeld 0 ++ demandTags f).length = 6 * (frameTags f + 1) := by
  rw [List.length_append, tagBytes_length, demandTags_length size consistent]
  omega

/-- Whatever header it came with, a held DEMAND is rebuilt from whole tags, at most three, and a body at the limit. -/
theorem heldDemand_rebuilt (size : sizeOk f = true) :
    ∃ tags before flags, tags ≤ 3 ∧ before.length = 6 * tags ∧
      heldDemand station f limit = rebuildDemand f tags (before ++ bodyBytes 1 flags limit) := by
  by_cases consistent : demandConsistent f = true
  · obtain ⟨few, -⟩ := (demandConsistent_iff f).mp consistent
    by_cases room : frameTags f < 3
    · exact ⟨_, _, _, room, heldTags_length station size consistent,
        heldDemand_tagged station limit consistent room⟩
    · have full : frameTags f = 3 := by omega
      exact ⟨_, _, _, le_rfl, full ▸ demandTags_length size consistent,
        heldDemand_tagFull station limit consistent full⟩
  · exact ⟨1, _, _, by decide, tagBytes_length _ _ _, heldDemand_inconsistent station limit consistent⟩

theorem payloadOk_heldDemand (size : sizeOk f = true) : payloadOk (heldDemand station f limit) = true := by
  obtain ⟨tags, before, flags, few, tagged, rebuilt⟩ := heldDemand_rebuilt station limit size
  exact rebuilt ▸ payloadOk_rebuildDemand few tagged

theorem layoutOk_heldDemand (size : sizeOk f = true) : layoutOk station (heldDemand station f limit) = true := by
  obtain ⟨tags, before, flags, few, tagged, rebuilt⟩ := heldDemand_rebuilt station limit size
  exact rebuilt ▸ layoutOk_rebuildDemand few tagged station

/-- R105: a held DEMAND passes both checks, so it is not the frame that failed one. -/
theorem heldDemand_ne (size : sizeOk f = true) (failed : payloadOk f = false ∨ layoutOk station f = false) :
    heldDemand station f limit ≠ f := by
  intro same
  have payload := payloadOk_heldDemand station limit size
  have layout := layoutOk_heldDemand station limit size
  rw [same] at payload layout
  rcases failed with failed | failed
  · exact Bool.false_ne_true (failed.symm.trans payload)
  · exact Bool.false_ne_true (failed.symm.trans layout)

end held

/-! ## Grant records and the departure -/

section departure

variable {s : State}

theorem State.grant_setGrant_self {k : Nat} (known : k < s.governor.grants.length) (g : GrantRecord → GrantRecord) :
    (s.setGrant k g).grant k = g (s.grant k) := by
  simp [State.grant, known]

/-- What `g` leaves of a record stands in every record. -/
theorem State.grant_setGrant_kept {α : Type} (k j : Nat) {g : GrantRecord → GrantRecord} {part : GrantRecord → α}
    (kept : ∀ r, part (g r) = part r) : part ((s.setGrant k g).grant j) = part (s.grant j) := by
  simp only [State.grant, State.setGrant_governor_grants, List.getD_eq_getElem?_getD, List.getElem?_modify]
  cases s.governor.grants[j]? with
  | none => rfl
  | some r => by_cases same : k = j <;> simp [same, kept]

theorem governs_iff (k : Nat) :
    governs s k = true ↔ ¬ (s.alloc.state = .stopped ∨ (s.tables.governing k).mode = .pass) := by
  simp [governs]

/-- R105: the Governor's record of a held DEMAND: the limit as what was passed, and the record on the line (R113). -/
def recordHeld (s : State) (k : Nat) : State :=
  (s.setGrant k fun r => { r with lastPassed := some ((s.grant k).limit : Int) }).putOnLine k

variable {f : List Byte} {k : Nat}

theorem governDemand_unusable_passed (addressed : governedRecord s f = some k) (free : ¬ governs s k = true) :
    governDemand s f false = (f, s) := by
  simp [governDemand, addressed, free]

theorem governDemand_unusable_held (addressed : governedRecord s f = some k) (governed : governs s k = true) :
    governDemand s f false = (heldDemand s.pins.station f (s.grant k).limit, recordHeld s k) := by
  simp [governDemand, addressed, governed, recordHeld]

/-- R10, R11: the oldest transit frame, a DEMAND, departs as the Governor returns it. -/
theorem exec_transitFrameDeparts_demand {x : TransitFrame} {rest : List TransitFrame} {sent : List Byte} {t : State}
    (ready : TransitReady s x rest) (demand : frameKind x.bytes = 2)
    (judged : governDemand s x.bytes x.usable = (sent, t)) :
    exec .transitFrameDeparts s = .next { t with port := { t.port with ringOut := .transit sent } } := by
  obtain ⟨released, free, stage, oldest⟩ := ready
  change act s departTransit = _
  rw [act_running released]
  simp [departTransit, oldest, State.ringOutFree, free, stage, demand, kindDemand, judged]

end departure

end Sys2Proof.Machine

namespace Sys2Proof.Proofs

open Sys2Proof.Machine

/-- Settles O18: the held frame is a DEMAND rebuilt around the limit, so both its checks and its layout are right, and
a frame that failed either differs from it. -/
theorem unusableDemandHeld : Obligations.UnusableDemandHeld := by
  intro s x rest k ready demand addressed unusable known size fits f passes lim consistent tag
  have low : -2147483648 ≤ lim := by omega
  have high : lim ≤ 2147483647 := by omega
  refine ⟨fun passed => ?passed, fun governed => ?held⟩
  case passed =>
    have free : ¬ governs s k = true := fun governed => (governs_iff k).mp governed passed
    exact exec_transitFrameDeparts_demand ready demand (unusable ▸ governDemand_unusable_passed addressed free)
  case held =>
    have departs := exec_transitFrameDeparts_demand ready demand
      (unusable ▸ governDemand_unusable_held addressed ((governs_iff k).mpr governed))
    have consistent_of : consistent → demandConsistent f = true := (demandConsistent_iff f).mpr
    obtain ⟨tags, before, flags, few, tagged, rebuilt⟩ := heldDemand_rebuilt s.pins.station (s.grant k).limit size
    refine ⟨_, _, departs, rfl, rebuilt ▸ demandSetpoint_rebuildDemand few tagged low high,
      rebuilt ▸ sizeOk_rebuildDemand size few tagged, rebuilt ▸ headerOk_rebuildDemand,
      payloadOk_heldDemand _ _ size, layoutOk_heldDemand _ _ size, rebuilt ▸ frameKind_rebuildDemand few _,
      heldDemand_ne _ _ size, rebuilt ▸ rfl, rebuilt ▸ rfl, rebuilt ▸ rfl, fun agrees room => ?tagged,
      fun agrees full => ?tagFull, fun disagrees => ?inconsistent,
      State.grant_setGrant_kept (part := (·.lastRequest)) k k fun _ => rfl,
      congrArg GrantRecord.lastPassed (State.grant_setGrant_self known _), rfl,
      fun j => State.grant_setGrant_kept (part := (·.limit)) k j fun _ => rfl, rfl⟩
    case tagged =>
      rw [heldDemand_tagged _ _ (consistent_of agrees) room, frameTags_rebuildDemand room,
        framePayload_rebuildDemand room (heldTags_length _ size (consistent_of agrees)), bodyBytes_eq _ _ low high,
        tagBytes_held]
      simp [tag, f, lim]
    case tagFull =>
      have whole : (demandTags f).length = 6 * 3 := full ▸ demandTags_length size (consistent_of agrees)
      rw [heldDemand_tagFull _ _ (consistent_of agrees) full, frameTags_rebuildDemand le_rfl,
        framePayload_rebuildDemand le_rfl whole, bodyBytes_eq _ _ low high]
      simp [f, lim]
    case inconsistent =>
      have unlike : ¬ demandConsistent f = true := fun agrees => disagrees ((demandConsistent_iff f).mp agrees)
      rw [heldDemand_inconsistent _ _ unlike, frameTags_rebuildDemand (by decide),
        framePayload_rebuildDemand (by decide) (tagBytes_length _ _ _), bodyBytes_eq _ _ low high, tagBytes_held]
      simp [tag, lim]

end Sys2Proof.Proofs
end

section
/-! What a command can do to the part, once for all commands: the inputs and the moves that every step is made of.
Each move names the parts of the state it can change, so that a law about other parts is kept at sight. -/

namespace Sys2Proof.Machine

/-! ## Chains of moves -/

/-- One state leads to another by moves of one kind. -/
def Chain (move : List Part → State → State → Prop) : State → State → Prop :=
  Relation.ReflTransGen fun s t => ∃ parts, move parts s t

section chains

variable {move : List Part → State → State → Prop} {s t u : State}

theorem Chain.refl : Chain move s s := Relation.ReflTransGen.refl

theorem Chain.trans (c : Chain move s t) (d : Chain move t u) : Chain move s u := Relation.ReflTransGen.trans c d

theorem Chain.one {parts : List Part} (m : move parts s t) : Chain move s t := Relation.ReflTransGen.single ⟨parts, m⟩

theorem Chain.then {parts : List Part} (c : Chain move s t) (m : move parts t u) : Chain move s u := c.trans (.one m)

theorem Chain.ite {c : Prop} [Decidable c] (yes : c → Chain move s t) (no : ¬ c → Chain move s u) :
    Chain move s (if c then t else u) := by
  split
  · exact yes ‹_›
  · exact no ‹_›

theorem Chain.foldl {α : Type} {f : State → α → State} (each : ∀ t a, Chain move t (f t a)) (l : List α) (s : State) :
    Chain move s (l.foldl f s) := by
  induction l generalizing s with
  | nil => exact .refl
  | cons a l ih => exact (each s a).trans (ih _)

/-- What every move keeps, a chain of moves keeps. -/
theorem Chain.keeps {law : State → Prop} (c : Chain move s t)
    (each : ∀ {parts : List Part} {s t : State}, move parts s t → law s → law t) (h : law s) : law t := by
  induction c with
  | refl => exact h
  | tail _ m ih => exact m.elim fun _ m => each m ih

end chains

/-! ## The moves -/

/-- What the Input Registry records and hands on. -/
inductive InputMove : List Part → State → State → Prop where
  | record (s : State) (r : Nat) (f : InputRecord → InputRecord) : InputMove [.records] s (s.setRecord r f)
  | notice (s : State) (k : Notice) (v : Int) : InputMove [.notices] s (s.notice k v)
  | level (s : State) (h : Nat) (x : HolderState) :
      InputMove [.holder] s { s with holder := { s.holder with holders := s.holder.holders.set h x } }
  | cause (s : State) (c : Cause) : InputMove [.alloc, .governor, .latch, .tracker, .notices] s (raiseCause c s)
  | breaker (s : State) (v : Int) : InputMove [.latch, .tracker] s (breakerStatus v s)
  | service (s : State) (k : Nat) (v : Int) : InputMove [.governor] s (serviceStatus k v s)
  | blow (s : State) (v : Int) : InputMove [.holder] s (blowStatus v s)

/-- Every part of the state: what a reset changes. -/
def allParts : List Part :=
  [.pins, .port, .tables, .records, .clock, .holder, .alloc, .governor, .latch, .tracker, .sweep, .billing, .notices,
    .mgmt, .now, .freeCount]

/-- The number of entries of every table. -/
structure TablesShape (x : Tables) : Prop where
  t0 : x.t0.length = 128
  t1 : x.t1.length = 31
  t2 : x.t2.length = 3
  t3 : x.t3.length = 2
  t4 : x.t4.length = 6
  t5 : x.t5.length = 2
  t6 : x.t6.length = 4
  t9 : x.t9.length = 96
  t10 : x.t10.length = 144
  t11 : x.t11.length = 8
  t12 : x.t12.length = 96

/-- The settings of the governed stations are in range. -/
def Tables.plantOk (x : Tables) : Prop := plantInRange x.t4 x.t5 x.t6 x.t7

/-- What a write of any table but T0 leaves: the stations, the numbers of entries, the ranges of the plant settings. -/
structure TablesKept (old new : Tables) : Prop where
  stations : new.t0 = old.t0
  shape : TablesShape old → TablesShape new
  plant : old.plantOk → new.plantOk

/-- R22 to R24: a station table that may stand. -/
structure StationsOk (t0 : List (Option Binding)) : Prop where
  few : mgmtCountOk (t0.filterMap id) = true
  unique : uniqueBindings (t0.filterMap id) = true
  engineer : lockoutOk (t0.filterMap id) = true

/-- A change of the sweep that adds no outstanding entry: the accounts that have one are among those that had, in
their order, the cursor never goes back, and no placed poll is forgotten. -/
structure PollsKept (old new : Sweep) : Prop where
  accounts : (new.entries.map fun e => e.account).Sublist (old.entries.map fun e => e.account)
  state : new.state = old.state
  cursor : old.cursor ≤ new.cursor
  placement : new.placement.length = old.placement.length

/-- The moves of the part. A move that is a whole effect carries no more than the conditions its command checks. -/
inductive Move : List Part → State → State → Prop where
  | input {parts : List Part} {s t : State} (m : InputMove parts s t) : Move parts s t
  | time (s : State) (n : Nat) : Move [.now] s { s with now := n }
  | choice (s : State) (n : Nat) : Move [.freeCount] s { s with freeCount := n }
  | reset (s : State) (pins : Pins) (probe : Option Nat) (out : Option LineOut) :
      Move allParts s (State.atReset pins probe out s.now s.freeCount s.pending)
  | count (s : State) (c : Counter) : Move [.port] s (s.count c)
  | clearStats (s : State) : Move [.port] s s.clearStats
  | marks (s : State) (seen : Bool) (ring : RingState) (probe : Option Nat) :
      Move [.port] s { s with port := { s.port with flagSeen := seen, ringState := ring, probeDue := probe } }
  | joins (s : State) (x : TransitFrame) (room : s.port.transit.length < 4) (size : sizeOk x.bytes = true)
      (layout : x.usable = true → layoutOk s.pins.station x.bytes = true) :
      Move [.port] s { s with port := { s.port with transit := s.port.transit ++ [x] } }
  | ownFrames (s : State) (own : List OwnFrame) (misses : Nat)
      (sub : (own.map fun e => e.seq).Sublist (s.port.ownSet.map fun e => e.seq)) (few : misses ≤ 3) :
      Move [.port] s { s with port := { s.port with ownSet := own, missCount := misses } }
  | transitDeparts (s : State) : Move [.port, .governor] s (departTransit s)
  | transitLeaves (s : State) : Move [.port, .governor] s (leaveTransit s)
  | insertedDeparts (s : State) : Move [.port] s (departInserted s)
  | insertedLeaves (s : State) : Move [.port, .sweep, .mgmt] s (leaveInserted s)
  | place (s : State) (f : Inserted) (kind : f.quota ≠ .poll) (room : s.freeSlot f.quota = true) :
      Move [.port] s (s.place f)
  | placePoll (s : State) (a : Nat) (station : Byte) (room : s.freeSlot .poll = true) :
      Move [.port, .sweep] s (placePoll a station s)
  | requests (s : State) (l : List Request) (fits : l.length ≤ s.mgmt.queue.length ∨ l.length ≤ 8) :
      Move [.mgmt] s { s with mgmt := { s.mgmt with queue := l } }
  | cursor (s : State) (c : Cursor) :
      Move [.mgmt] s { s with mgmt := { s.mgmt with cursors := setCursor c s.mgmt.cursors } }
  | notices (s : State) (l : List (Notice × Int)) : Move [.notices] s { s with mgmt := { s.mgmt with notices := l } }
  | mgmtMarks (s : State) (due : Option Nat) (stage : ResetStage) :
      Move [.mgmt] s { s with mgmt := { s.mgmt with noticeDue := due, resetStage := stage } }
  | adopted (s : State) (seconds day : Nat) (dayType : DayType) (next adoption : Nat) (inDay : seconds ≤ 86399)
      (dayFits : day ≤ 65535) :
      Move [.clock] s { s with clock := { seconds := seconds, day := day, dayType := dayType, state := .valid
                                          nextCount := some next, adoptionDue := some adoption } }
  | ticks (s : State) (seconds day next : Nat) (runs : s.clock.nextCount.isSome = true) (inDay : seconds ≤ 86399)
      (dayFits : s.clock.day ≤ 65535 → day ≤ 65535) :
      Move [.clock] s { s with clock := { s.clock with seconds := seconds, day := day, nextCount := some next } }
  | adoptionEnds (s : State) (valid : s.clock.state = .valid) :
      Move [.clock] s { s with clock := { s.clock with state := .free, adoptionDue := none } }
  | blowLimit (s : State) (duration : Nat) (blowing : s.holder.window.state = .blowing) :
      Move [.holder] s (endBlow duration .limit s)
  | tailEnds (s : State) (tail : s.holder.window.state = .tail) :
      Move [.holder] s { s with holder := { s.holder with window :=
        { s.holder.window with state := .idle, start := none, tailDue := none } } }
  | countOrigin (s : State) (ended : Nat) : Move [.alloc] s (countOrigin ended s)
  | accountBoundary (s : State) (ended : Nat) : Move [.tracker, .notices] s (accountBoundary ended s)
  | openPeriod (s : State) (runs : s.alloc.period.isSome = true) : Move [.alloc, .tracker] s (openPeriod s)
  | completion (s : State) : Move [.alloc, .governor] s (completionEffect s)
  | start (s : State) (clear : s.latch.causes = []) : Move [.alloc, .governor, .tracker] s (startEffect s)
  | stop (s : State) : Move [.alloc, .tracker, .notices] s (stopEffect s)
  | resume (s : State) : Move [.alloc, .latch, .notices] s (resumeEffect s)
  | mode (s : State) (m : PlantMode) : Move [.latch] s { s with latch := { s.latch with mode := m } }
  | settingsLoaded (s : State) : Move [.alloc] s { s with alloc := { s.alloc with settingsLoaded := true } }
  | clockStep (s : State) : Move [.tracker, .notices] s (trackerClockStep s)
  | settlements (s : State) (l : List Settlement) (loss : Nat) (fewer : l.length ≤ s.tracker.queue.length) :
      Move [.tracker] s { s with tracker := { s.tracker with queue := l, pendingLoss := loss } }
  | roll (s : State) (days : Nat) : Move [.tables] s (rollSchedule days s)
  | stations (s : State) (t0 : List (Option Binding)) (shape : TablesShape s.tables → t0.length = 128)
      (ok : StationsOk t0) : Move [.tables] s (s.onTables fun t => { t with t0 := t0 })
  | settings (s : State) (f : Tables → Tables) (kept : TablesKept s.tables (f s.tables)) :
      Move [.tables] s (s.onTables f)
  | billing (s : State) (b : Billing) (accounts : b.accounts.length = s.billing.accounts.length)
      (queue : b.queue.length ≤ s.billing.queue.length) : Move [.billing] s { s with billing := b }
  | closes (s : State) (room : s.billing.queue.length + enabledCount s ≤ 192) :
      Move [.billing, .notices] s (takeClose s)
  | polls (s : State) (f : Sweep → Sweep) (kept : PollsKept s.sweep (f s.sweep)) : Move [.sweep] s (s.onSweep f)
  | issue (s : State) (e : PollEntry) (sweeping : s.sweep.state = .sweeping) (next : e.account = s.sweep.cursor)
      (room : s.sweep.entries.length < 4) :
      Move [.sweep] s (s.onSweep fun w => { w with cursor := w.cursor + 1, entries := w.entries ++ [e] })
  | sweepStarts (s : State) (c : SweepCopy) (rest : s.sweep.state = .idle ∨ s.sweep.state = .waiting) :
      Move [.sweep, .notices] s (startSweepOn c s)
  | sweepChecked (s : State) : Move [.sweep, .notices] s (checkSweepEnd s)
  | sweepStops (s : State) : Move [.sweep, .notices] s (stopSweepEffect s)
  | sweepRestarts (s : State) : Move [.sweep] s (restartSweepEffect s)

abbrev InputChain : State → State → Prop := Chain InputMove

abbrev Run : State → State → Prop := Chain Move

theorem InputMove.changes {parts : List Part} {s t : State} (m : InputMove parts s t) : Changes parts s t := by
  cases m with
  | record => exact changes_records _ _
  | notice => exact notice_changes _ _ _
  | level => exact changes_holder _ _
  | cause => exact raiseCause_changes _ _
  | breaker => exact breakerStatus_changes _ _
  | service => exact serviceStatus_changes _ _ _
  | blow => exact blowStatus_changes _ _

theorem changes_allParts {s t : State} (pending : t.pending = s.pending) : Changes allParts s t := by
  constructor <;> first | exact pending | exact .inl (by decide)

theorem departTransit_changes (s : State) : Changes [.port, .governor] s (departTransit s) := by
  unfold departTransit
  split
  · exact .refl _ _
  · refine .ite (fun _ => ?_) fun _ => .refl _ _
    refine Changes.andThen (ps := [.governor]) ?_ (changes_port _ _) (by decide) (by decide)
    split
    · exact governDemand_changes _ _ _
    · exact .refl _ _

theorem leaveTransit_changes (s : State) : Changes [.port, .governor] s (leaveTransit s) := by
  unfold leaveTransit
  split
  · exact (settleLine_changes s).andThen ((changes_port _ _).trans (changes_port _ _)) (by decide) (by decide)
  · exact .refl _ _

theorem departInserted_changes (s : State) : Changes [.port] s (departInserted s) := by
  unfold departInserted
  split
  · exact .refl _ _
  · exact .ite (fun _ => changes_port _ _) fun _ => .refl _ _

theorem changes_mgmtMarks (s : State) (due : Option Nat) (stage : ResetStage) :
    Changes [.mgmt] s { s with mgmt := { s.mgmt with noticeDue := due, resetStage := stage } } := by
  constructor <;> first | rfl | exact .inl (by decide) | exact .inr rfl

theorem changes_requests (s : State) (l : List Request) :
    Changes [.mgmt] s { s with mgmt := { s.mgmt with queue := l } } := by
  constructor <;> first | rfl | exact .inl (by decide) | exact .inr rfl

theorem changes_cursors (s : State) (l : List Cursor) :
    Changes [.mgmt] s { s with mgmt := { s.mgmt with cursors := l } } := by
  constructor <;> first | rfl | exact .inl (by decide) | exact .inr rfl

theorem changes_notices (s : State) (l : List (Notice × Int)) :
    Changes [.notices] s { s with mgmt := { s.mgmt with notices := l } } := by
  constructor <;> first | rfl | exact .inl (by decide) | exact .inr rfl

/-- R14, R17: the part once an own frame has left RING-OUT: its place is free, INSERTED counts, and the lap timer of its
sequence and the probe timer run. -/
def State.insertedGone (s : State) (bytes : List Byte) (seq : Byte) (rest : List Inserted) : State :=
  { s with port := { (s.count .inserted).port with
    insertion := rest, ringOut := .flags, lastOut := some (.whole bytes), probeDue := some (s.now + 1000)
    ownSet := s.port.ownSet.map fun e => if e.seq = seq then { e with lapDue := some (s.now + 20) } else e } }

theorem leaveInserted_sent {s : State} {bytes : List Byte} {seq : Byte} {f : Inserted} {rest : List Inserted}
    (sent : s.port.ringOut = .inserted bytes seq) (oldest : s.port.insertion = f :: rest) :
    leaveInserted s =
      let gone := s.insertedGone bytes seq rest
      let t := if f.quota = .poll then pollLeft seq gone else gone
      if f.endsPart then { t with mgmt := { t.mgmt with resetStage := .replyLeft } } else t := by
  simp only [leaveInserted, sent, oldest]
  rfl

theorem leaveInserted_idle {s : State} (none : ∀ bytes seq f rest, s.port.ringOut = .inserted bytes seq →
    s.port.insertion ≠ f :: rest) : leaveInserted s = s := by
  unfold leaveInserted
  split
  · rename_i sent oldest
    exact absurd oldest (none _ _ _ _ sent)
  · rfl

theorem leaveInserted_changes (s : State) : Changes [.port, .sweep, .mgmt] s (leaveInserted s) := by
  by_cases sends : ∃ bytes seq f rest, s.port.ringOut = .inserted bytes seq ∧ s.port.insertion = f :: rest
  · obtain ⟨bytes, seq, f, rest, sent, oldest⟩ := sends
    rw [leaveInserted_sent sent oldest]
    have gone : Changes [.port, .sweep, .mgmt] s (s.insertedGone bytes seq rest) :=
      (changes_port s _).weaken (by decide)
    have left := Changes.ite (c := f.quota = .poll)
      (fun _ => gone.trans ((pollLeft_changes _ seq).weaken (by decide))) fun _ => gone
    exact .ite (fun _ => left.trans ((changes_mgmtMarks _ _ _).weaken (by decide))) fun _ => left
  · rw [leaveInserted_idle fun bytes seq f rest sent oldest => sends ⟨bytes, seq, f, rest, sent, oldest⟩]
    exact .refl _ _

/-- A move changes no part but those it names. -/
theorem Move.changes {parts : List Part} {s t : State} (m : Move parts s t) : Changes parts s t := by
  cases m with
  | input m => exact m.changes
  | time => exact changes_now _ _
  | choice => exact changes_freeCount _ _
  | reset => exact changes_allParts rfl
  | count | clearStats | marks | joins | ownFrames | place => exact changes_port _ _
  | transitDeparts => exact departTransit_changes _
  | transitLeaves => exact leaveTransit_changes _
  | insertedDeparts => exact departInserted_changes _
  | insertedLeaves => exact leaveInserted_changes _
  | placePoll => exact placePoll_changes _ _ _
  | requests => exact changes_requests _ _
  | cursor => exact changes_cursors _ _
  | notices => exact changes_notices _ _
  | mgmtMarks => exact changes_mgmtMarks _ _ _
  | adopted | ticks | adoptionEnds => exact changes_clock _ _
  | blowLimit => exact endBlow_changes _ _ _
  | tailEnds => exact changes_holder _ _
  | countOrigin => exact countOrigin_changes _ _
  | accountBoundary => exact accountBoundary_changes _ _
  | openPeriod => exact (handTarget_changes _ _ _).andThen (changes_alloc _ _) (by decide) (by decide)
  | completion => exact completionEffect_changes _
  | start => exact startEffect_changes _
  | stop => exact stopEffect_changes _
  | resume => exact resumeEffect_changes _
  | mode => exact changes_latch _ _
  | settingsLoaded => exact changes_alloc _ _
  | clockStep => exact trackerClockStep_changes _
  | settlements => exact changes_tracker _ _
  | roll | stations | settings => exact changes_tables _ _
  | billing => exact changes_billing _ _
  | closes => exact takeClose_changes _
  | polls | issue | sweepRestarts => exact onSweep_changes _ _
  | sweepStarts => exact startSweepOn_changes _ _
  | sweepChecked => exact checkSweepEnd_changes _
  | sweepStops => exact stopSweepEffect_changes _

/-! ## What the Input Registry does is a chain of inputs -/

section inputs

variable (s : State)

theorem evaluateLevel_inputs (h : Nat) (v : Int) : InputChain s (evaluateLevel h v s) := by
  have level := Chain.one (InputMove.level s h
    { band := nextBand (s.holderSetting h) (s.holderState h).band v, level := some v })
  exact .ite (fun _ => level) fun _ =>
    .ite (fun _ => (level.then (.notice _ _ _)).then (.cause _ _)) fun _ => level.then (.notice _ _ _)

theorem handStatus_inputs (r : Nat) (v : Int) : InputChain s (handStatus r v s) := by
  unfold handStatus
  split
  · exact .one (.blow _ _)
  · exact .one (.breaker _ _)
  · exact .ite (fun _ => .one (.cause _ _)) fun _ => .refl
  · split
    · exact .one (.service _ _ _)
    · exact .refl

theorem substitute_inputs (r : Nat) : InputChain s (substitute r s) := by
  have taken : ∀ f, InputChain s (s.setRecord r f) := fun f => .one (.record _ _ _)
  have told : ∀ f, InputChain s (if (s.record r).quality = .substituted then s.setRecord r f
      else (s.setRecord r f).notice .inputSubstituted (r : Int)) := fun f =>
    .ite (fun _ => taken f) fun _ => (taken f).then (.notice _ _ _)
  exact .ite (fun _ => (told _).trans (evaluateLevel_inputs _ _ _)) fun _ =>
    .ite (fun _ => (told _).trans (handStatus_inputs _ _ _)) fun _ => told _

theorem judgeRecord_inputs (start r : Nat) : InputChain s (judgeRecord start s r) := by
  unfold judgeRecord
  refine .ite (fun _ => .refl) fun _ => .ite (fun _ => substitute_inputs _ _) fun _ => ?_
  split
  · exact .ite (fun _ => .one (.record _ _ _)) fun _ => .refl
  · exact .refl

theorem judgeAll_inputs (start : Nat) : InputChain s (judgeAll start s) :=
  Chain.foldl (fun t r => judgeRecord_inputs t start r) _ _

theorem judgeLevel_inputs (r : Nat) : InputChain s (judgeLevel s r) :=
  .ite (fun _ => .refl) fun _ => .ite (fun _ => substitute_inputs _ _) fun _ => .refl

theorem arrivalAt_inputs (r : Nat) (v : Int) : InputChain s (arrivalAt r v s) := by
  have taken : ∀ f, InputChain s (s.setRecord r f) := fun f => .one (.record _ _ _)
  refine .ite (fun _ => ?status) fun _ => ?measurement
  case status =>
    exact .ite (fun _ => .ite (fun _ => taken _) fun _ =>
      .ite (fun _ => (taken _).trans (handStatus_inputs _ _ _)) fun _ => taken _) fun _ => .refl
  case measurement =>
    exact .ite (fun _ => (((taken _).trans (evaluateLevel_inputs _ _ _)).trans (judgeLevel_inputs _ _)).trans
      (judgeLevel_inputs _ _)) fun _ => taken _

theorem takeSample_inputs (entries : List SampleEntry) (role : Role) (i : Nat) :
    InputChain s (takeSample entries role i s) :=
  Chain.foldl (fun t r => by
    split
    · exact arrivalAt_inputs _ _ _
    · exact .refl) _ _

theorem discardCandidates_inputs (role : Role) (i : Nat) : InputChain s (discardCandidates role i s) :=
  Chain.foldl (fun t _ => .ite (fun _ => .one (.record t _ _)) fun _ => .refl) _ _

end inputs

/-- Inputs are moves. -/
theorem InputChain.run {s t : State} (c : InputChain s t) : Run s t :=
  Chain.keeps (law := Run s) c (fun m r => r.then (.input m)) .refl

end Sys2Proof.Machine
end

section
/-! Every command is a run of moves: the reception of a frame, the timers, the boundary, and the service of a request
with each owner's answer. -/

namespace Sys2Proof.Machine

variable (s : State)

/-! ## Reception -/

theorem setRingState_run (r : RingState) (k : Option Notice) : Run s (setRingState r k s) := by
  have marked := Chain.one (Move.marks s s.port.flagSeen r s.port.probeDue)
  unfold setRingState
  split
  · exact marked.then (.input (.notice _ _ _))
  · exact marked

/-- Sequences that leave the own-frame set leave the others in their order. -/
theorem removed_sublist (own : List OwnFrame) (seq : Byte) :
    ((own.filter fun e => e.seq != seq).map fun e => e.seq).Sublist (own.map fun e => e.seq) :=
  List.filter_sublist.map _

theorem goodReturn_run (seq : Byte) : Run s (goodReturn seq s) :=
  ((Chain.one (.ownFrames s _ 0 (removed_sublist s.port.ownSet seq) (by decide))).then (.count _ .stripped)).trans
    (setRingState_run _ _ _)

theorem strip_run (f : List Byte) : Run s (strip f s) := by
  have counted : Run s (if payloadOk f then s else s.count .payloadCheck) :=
    .ite (fun _ => .refl) fun _ => .one (.count _ _)
  exact .ite (fun _ => counted.trans (goodReturn_run _ _)) fun _ =>
    (counted.then (.count _ _)).then (.input (.notice _ _ _))

theorem takeRequest_run (f : List Byte) : Run s (takeRequest f s) :=
  .ite (fun room => .one (.requests _ _ (.inr (by simpa [requestCapacity] using Nat.succ_le_of_lt room)))) fun _ => .one (.count _ _)

theorem freeEntry_run (account : Nat) : Run s (freeEntry account s) :=
  .one (.polls _ _ ⟨List.filter_sublist.map _, rfl, le_rfl, rfl⟩)

theorem setAccount_run (a : Nat) (f : Account → Account) : Run s (s.setAccount a f) :=
  .one (.billing _ _ (by simp) le_rfl)

theorem takeReading_run (r : Reading) : Run s (takeReading r s) := by
  have taken : ∀ f, Run s (s.setAccount r.account f) := fun f => setAccount_run s _ f
  refine .ite (fun _ => ?_) fun _ => .refl
  split
  · exact taken _
  · exact .ite (fun _ => taken _) fun _ => .ite (fun _ => taken _) fun _ => taken _

theorem billMissed_run (a : Nat) : Run s (billMissed a s) :=
  .ite (fun _ => (setAccount_run s _ _).then (.input (.notice _ _ _))) fun _ => setAccount_run s _ _

/-- A change of the sweep's tallies, marks, timers and retries alone. -/
theorem pollsKept_of_eq {old new : Sweep} (entries : new.entries = old.entries) (state : new.state = old.state)
    (cursor : new.cursor = old.cursor) (placement : new.placement = old.placement) : PollsKept old new :=
  ⟨by rw [entries], state, cursor.ge, by rw [placement]⟩

theorem missedOutcome_run (a : Nat) : Run s (missedOutcome a s) :=
  (Chain.one (.polls s _ (pollsKept_of_eq rfl rfl rfl rfl))).trans (billMissed_run _ _)

theorem checkSweepEnd_run : Run s (checkSweepEnd s) := .one (.sweepChecked _)

theorem meterReply_run (station seq : Byte) (entries : List SampleEntry) :
    Run s (meterReply station seq entries s) := by
  have tallied : ∀ (t : State) (f : Sweep → Sweep), (∀ w, PollsKept w (f w)) → Run t (t.onSweep f) := fun t f kept =>
    .one (.polls t f (kept _))
  unfold meterReply
  split
  · exact .one (.count _ _)
  · rename_i e _
    refine ((freeEntry_run s e.account).trans ?_).trans (checkSweepEnd_run _)
    split
    · exact (tallied _ (fun w => { w with tallyRead := w.tallyRead + 1 }) fun _ =>
        pollsKept_of_eq rfl rfl rfl rfl).trans (takeReading_run _ _)
    · exact (tallied _ (fun w => { w with tallyFault := w.tallyFault + 1 }) fun _ =>
        pollsKept_of_eq rfl rfl rfl rfl).trans (setAccount_run _ _ _)

theorem offerSample_run (f : List Byte) : Run s (offerSample f s) := by
  unfold offerSample
  split
  · exact .refl
  · exact .ite (fun _ => (takeSample_inputs s _ _ _).run.trans (meterReply_run _ _ _ _)) fun _ =>
      (takeSample_inputs s _ _ _).run

theorem roll_run (c : Prop) [Decidable c] (n : Nat) : Run s (if c then rollSchedule n s else s) :=
  .ite (fun _ => .one (.roll _ _)) fun _ => .refl

theorem adoptTime_run {seconds day : Nat} (dayType : DayType) (inDay : seconds ≤ 86399) (dayFits : day ≤ 65535) :
    Run s (adoptTime seconds day dayType s) := by
  have adopted := Chain.one (Move.adopted s seconds day dayType (s.now + second) (s.now + adoptionInterval) inDay dayFits)
  exact .ite (fun _ => adopted) fun _ =>
    .ite (fun _ => (adopted.trans (roll_run _ _ _)).then (.clockStep _)) fun _ => adopted.trans (roll_run _ _ _)

theorem unbe_take_le (bytes : List Byte) (n : Nat) : unbe (bytes.take n) ≤ 256 ^ n - 1 := by
  have := unbe_lt (bytes.take n)
  have : 256 ^ (bytes.take n).length ≤ 256 ^ n := Nat.pow_le_pow_right (by decide) (by simp)
  omega

theorem judgeTime_run (payload : List Byte) : Run s (judgeTime payload s) := by
  have rejected : ∀ v, Run s (s.notice .timeRejected v) := fun v => .one (.input (.notice _ _ _))
  unfold judgeTime
  split
  · exact .ite (fun ok => adoptTime_run s _ ok.1 (unbe_take_le _ 2)) fun _ => rejected _
  · exact rejected _

theorem offer_run (f : List Byte) : Run s (offer f s) := by
  refine .ite (fun _ => offerSample_run _ _) fun _ => .ite (fun _ => ?_) fun _ => .refl
  unfold offerTime
  split
  · exact .refl
  · exact .ite (fun _ => judgeTime_run _ _) fun _ => .refl

/-- R7: a frame judged usable has its layout. -/
theorem judgePayload_layout (f : List Byte) (usable : (judgePayload f s).1 = true) : layoutOk s.pins.station f = true := by
  unfold judgePayload at usable
  split at usable
  · split at usable
    · assumption
    · cases usable
  · cases usable

theorem judgePayload_run (f : List Byte) : Run s (judgePayload f s).2 ∧
    (judgePayload f s).2.port.transit = s.port.transit ∧ (judgePayload f s).2.pins = s.pins := by
  unfold judgePayload
  split
  · split
    · exact ⟨.refl, rfl, rfl⟩
    · exact ⟨.one (.count _ _), rfl, rfl⟩
  · exact ⟨.one (.count _ _), rfl, rfl⟩

theorem acceptFrame_run {f : List Byte} {usable : Bool} (size : sizeOk f = true)
    (layout : usable = true → layoutOk s.pins.station f = true) : Run s (acceptFrame f usable s) := by
  refine .ite (fun room => ?_) fun _ => .one (.count _ _)
  have joined := Chain.one (Move.joins s ⟨f, usable⟩ room size layout)
  exact .ite (fun _ => joined.trans (offer_run _ _)) fun _ => joined

theorem takeForeign_run {f : List Byte} (size : sizeOk f = true) : Run s (takeForeign f s) := by
  obtain ⟨judged, -, pins⟩ := judgePayload_run s f
  refine .ite (fun _ => judged.trans (takeRequest_run _ _)) fun _ => judged.trans (acceptFrame_run _ size fun usable => ?_)
  rw [pins]
  exact judgePayload_layout s f usable

theorem judgeLine_run (line : List Byte) : Run s (judgeLine line s) := by
  unfold judgeLine
  split
  · exact .refl
  · exact .one (.count _ _)
  · refine .ite (fun _ => .one (.count _ _)) fun size => .ite (fun _ => .one (.count _ _)) fun _ =>
      .ite (fun _ => strip_run _ _) fun _ => takeForeign_run _ ?_
    simpa using size

theorem receive_run (line : List Byte) : Run s (receive line s) :=
  .ite (fun _ => judgeLine_run _ _) fun _ => .one (.marks s true s.port.ringState s.port.probeDue)

/-! ## Timers and the allocation -/

theorem advanceTo_run (n : Nat) : Run s (s.advanceTo n) := .one (.time _ _)

theorem missLap_run (seq : Byte) : Run s (missLap seq s) := by
  have missed := (Chain.one (Move.ownFrames s _ (min missLimit (s.port.missCount + 1))
    (removed_sublist s.port.ownSet seq) (by simp [missLimit]))).then (.count _ .lapMiss)
  exact .ite (fun _ => missed.trans (setRingState_run _ _ _)) fun _ => missed

theorem lapEffect_run (seq : Byte) : Run s (lapEffect seq s) := by
  unfold lapEffect
  split
  · exact (advanceTo_run _ _).trans (missLap_run _ _)
  · exact .refl

theorem probeEffect_run : Run s (probeEffect s) := by
  unfold probeEffect
  split
  · exact .refl
  · rename_i due _
    refine ((advanceTo_run s due).trans ?_).then (.marks _ _ _ (some _))
    exact .ite (fun room => .one (.place _ _ (by rintro ⟨⟩) room)) fun _ => .refl

theorem countSecond_run : Run s (countSecond s) := by
  unfold countSecond
  split
  · exact .refl
  · rename_i due runs
    have counts : s.clock.nextCount.isSome = true := by simp [runs]
    refine .ite (fun low => ?_) fun _ => ?_
    · exact (advanceTo_run s _).then (.ticks _ _ _ _ counts (Nat.succ_le_of_lt low) id)
    · exact ((advanceTo_run s _).then (.ticks _ 0 _ _ counts (by decide) fun _ =>
        Nat.le_of_lt_succ (Nat.mod_lt _ (by decide)))).then (.roll _ _)

theorem adoptionEffect_run : Run s (adoptionEffect s) := by
  unfold adoptionEffect
  split
  · exact .refl
  · exact .ite (fun valid => (advanceTo_run s _).then (.adoptionEnds _ valid)) fun _ => .refl

theorem blowLimitEffect_run : Run s (blowLimitEffect s) := by
  unfold blowLimitEffect
  split
  · exact .ite (fun blowing => (advanceTo_run s _).then (.blowLimit _ _ blowing)) fun _ => .refl
  · exact .refl

theorem tailEffect_run : Run s (tailEffect s) := by
  unfold tailEffect
  split
  · exact .ite (fun tail => (advanceTo_run s _).then (.tailEnds _ tail)) fun _ => .refl
  · exact .refl

/-- R120: the part once a cause has joined the set, with its stamp. -/
def State.causeEntered (s : State) (c : Cause) : State :=
  { s with latch := { s.latch with
    causes := s.latch.causes ++ [⟨c, s.stamp⟩]
    firstCause := if s.latch.causes = [] then some c else s.latch.firstCause } }

/-- R120: the part once the notice event of an entered cause is handed over too. -/
def State.causeTold (s : State) (c : Cause) : State :=
  (s.causeEntered c).notice .trip ((setValue (s.causeEntered c).latch.causes + 16 * c.code : Nat) : Int)

theorem raiseCause_known {c : Cause} (known : s.hasCause c = true) : raiseCause c s = s := by
  simp [raiseCause, known]

theorem raiseCause_new {c : Cause} (new : ¬ s.hasCause c = true) :
    raiseCause c s = tripIfRunning (s.causeTold c) := by
  simp only [raiseCause, new]
  rfl

theorem tripIfRunning_idle (idle : s.alloc.state ≠ .running) : tripIfRunning s = s := by
  simp [tripIfRunning, idle]

/-- R121: a trip: the state, every limit, the mark of the current block. -/
theorem tripIfRunning_running (running : s.alloc.state = .running) :
    tripIfRunning s = (({ s with alloc := { s.alloc with state := .tripped } }).onGrants fun k onLine r =>
      r.withLimit onLine (s.tables.governing k).trip).markBlock fun f => { f with trip := true } := by
  simp only [tripIfRunning, running, if_true]
  rfl

theorem causeTold_alloc (c : Cause) : (s.causeTold c).alloc = s.alloc := State.notice_alloc _ _ _

/-- R120, R121: of the Allocation Engine a cause moves the state alone. -/
theorem raiseCause_alloc (c : Cause) : ∃ state, (raiseCause c s).alloc = { s.alloc with state := state } := by
  by_cases known : s.hasCause c = true
  · exact ⟨_, by rw [raiseCause_known s known]⟩
  · rw [raiseCause_new s known]
    by_cases running : (s.causeTold c).alloc.state = .running
    · exact ⟨.tripped, by rw [tripIfRunning_running _ running]; simp [causeTold_alloc]⟩
    · exact ⟨_, by rw [tripIfRunning_idle _ running, causeTold_alloc]⟩

/-- Of the Allocation Engine the inputs can move the state alone. -/
theorem InputChain.alloc {s t : State} (c : InputChain s t) : ∃ state, t.alloc = { s.alloc with state := state } := by
  refine Chain.keeps (law := fun t => ∃ state, t.alloc = { s.alloc with state := state }) c (fun m h => ?_) ⟨_, rfl⟩
  obtain ⟨state, h⟩ := h
  have frame := m.changes
  cases m with
  | cause =>
    obtain ⟨moved, e⟩ := raiseCause_alloc _ _
    exact ⟨moved, by rw [e, h]⟩
  | _ => exact ⟨state, by rw [frame.alloc.resolve_left (by decide), h]⟩

theorem accountPeriod_run (p : Period) : Run s (accountPeriod p s) :=
  ((judgeAll_inputs s _).run.then (.countOrigin _ _)).then (.accountBoundary _ _)

theorem accountPeriod_period (p : Period) : (accountPeriod p s).alloc.period = s.alloc.period := by
  obtain ⟨state, judged⟩ := (judgeAll_inputs s p.start).alloc
  rw [accountPeriod, (accountBoundary_changes _ _).alloc.resolve_left (by decide)]
  simp only [countOrigin, judged]

theorem boundaryEffect_run : Run s (boundaryEffect s) := by
  unfold boundaryEffect
  split
  · rename_i p period _
    refine ((advanceTo_run s _).trans (accountPeriod_run _ p)).then (.openPeriod _ ?_)
    rw [accountPeriod_period, State.advanceTo_alloc, period]
    rfl
  · exact .refl

/-! ## Sweeps -/

theorem visitAccount_run : Run s (visitAccount s) := by
  have advanced : Run s (advanceCursor s) := .one (.polls _ _ ⟨.refl _, rfl, Nat.le_succ _, rfl⟩)
  refine .ite (fun visits => .ite (fun _ => ?_) fun _ => advanced.trans (checkSweepEnd_run _)) fun _ => .refl
  split
  · exact (advanced.trans (missedOutcome_run _ _)).trans (checkSweepEnd_run _)
  · refine .ite (fun room => ?_) fun _ => .refl
    simp only [canIssue, Bool.and_eq_true, decide_eq_true_eq] at room
    obtain ⟨⟨few, slot⟩, -⟩ := room
    exact (Chain.one (.issue s _ visits.1 rfl few)).then (.placePoll _ _ _ slot)

theorem placeRetry_run : Run s (placeRetry s) := by
  have taken : ∀ rest, Run s (s.onSweep fun w => { w with retries := rest }) := fun rest =>
    .one (.polls _ _ (pollsKept_of_eq rfl rfl rfl rfl))
  unfold placeRetry
  split
  · exact .refl
  · split
    · exact taken _
    · exact .ite (fun slot => (taken _).then (.placePoll _ _ _ slot)) fun _ => .refl

theorem mapped_accounts (entries : List PollEntry) {f : PollEntry → PollEntry} (kept : ∀ e, (f e).account = e.account) :
    (entries.map f).map (fun e => e.account) = entries.map fun e => e.account := by
  simp [kept]

theorem replyTimeout_run (account : Nat) : Run s (replyTimeout account s) := by
  unfold replyTimeout
  split
  · exact .refl
  · split
    · exact .refl
    · rename_i departed _
      refine (advanceTo_run s (departed + replyTime)).trans (.ite (fun _ => .ite (fun _ => ?_) fun _ => ?_) fun _ => ?_)
      · refine .one (.polls _ _ ⟨?_, rfl, le_rfl, rfl⟩)
        rw [mapped_accounts _ fun e => by split <;> rfl]
      · exact ((freeEntry_run _ _).trans (missedOutcome_run _ _)).trans (checkSweepEnd_run _)
      · exact (freeEntry_run _ _).trans (checkSweepEnd_run _)

theorem intervalEffect_run : Run s (intervalEffect s) := by
  unfold intervalEffect
  split
  · exact .refl
  · dsimp only
    split
    · rename_i waiting
      exact (advanceTo_run s _).then (.sweepStarts _ _ (.inr waiting))
    · exact (advanceTo_run s _).then (.polls _ _ (pollsKept_of_eq rfl rfl rfl rfl))
    · exact .refl

theorem cancelEntry_run (account : Nat) : Run s (cancelEntry account s) :=
  .one (.polls s (fun w => { w with
      entries := w.entries.filter fun e => e.account != account
      placement := w.placement.map fun item => if item = some account then none else item
      retries := w.retries.filter fun a => a != account })
    ⟨List.filter_sublist.map _, rfl, le_rfl, by simp⟩)

theorem sweepRebinding_run (meter : Nat) : Run s (sweepRebinding meter s) :=
  Chain.foldl (fun t a => cancelEntry_run t a) _ _

theorem billRebinding_run (meter : Nat) : Run s (billRebinding meter s) := .one (.billing _ _ (by simp) le_rfl)

theorem bindingReports_run (old new : List (Option Binding)) : Run s (bindingReports old new s) := by
  refine Chain.trans (Chain.trans (Chain.foldl (fun t o => ?_) _ _)
    (Chain.foldl (fun t m => ?_) _ _)) (checkSweepEnd_run _)
  · exact .ite (fun _ => (discardCandidates_inputs _ _ _).run) fun _ => .refl
  · exact (sweepRebinding_run t m).trans (billRebinding_run _ _)

theorem changeAccounts_run (old new : List AccountSetting) : Run s (changeAccounts old new s) :=
  ((Chain.one (.billing s _ (by simp) le_rfl)).trans (Chain.foldl (fun t a => cancelEntry_run t a) _ _)).trans
    (checkSweepEnd_run _)

/-! ## Notices -/

theorem buildNotice_run : Run s (buildNotice s) :=
  .ite (fun ready => ((Chain.one (.place s _ (by rintro ⟨⟩) ready.2.1)).then (.notices _ [])).then
    (.mgmtMarks _ (some _) s.mgmt.resetStage)) fun _ => .refl

theorem noticeIntervalEffect_run : Run s (noticeIntervalEffect s) := by
  unfold noticeIntervalEffect
  split
  · exact .refl
  · exact (advanceTo_run s _).then (.mgmtMarks _ none s.mgmt.resetStage)

end Sys2Proof.Machine
end

section
/-! The service of requests as runs of moves: each owner's answer, and every command and every step. -/

namespace Sys2Proof.Machine

/-! ## Entries read from a request -/

section entries

variable {α : Type} {widths : List Nat} {entryOf : Nat → List Nat → Option α}

theorem readEntries_cons {index : Nat} {e : List Byte} {es : List (List Byte)} {new : List α}
    (read : readEntries widths entryOf index (e :: es) = some new) :
    ∃ a as, entryOf index (splitFields widths e) = some a ∧ readEntries widths entryOf (index + 1) es = some as ∧
      new = a :: as := by
  unfold readEntries at read
  split at read
  · rename_i a as first rest
    exact ⟨a, as, first, rest, (Option.some.inj read).symm⟩
  · cases read

theorem readEntries_length {index : Nat} {es : List (List Byte)} {new : List α}
    (read : readEntries widths entryOf index es = some new) : new.length = es.length := by
  induction es generalizing index new with
  | nil => cases read; rfl
  | cons e es ih =>
    obtain ⟨a, as, -, rest, rfl⟩ := readEntries_cons read
    simp [ih rest]

/-- Every entry read passed its check. -/
theorem readEntries_checked {index : Nat} {es : List (List Byte)} {new : List α}
    (read : readEntries widths entryOf index es = some new) {a : α} (mem : a ∈ new) :
    ∃ i fields, entryOf i fields = some a := by
  induction es generalizing index new with
  | nil => cases read; cases mem
  | cons e es ih =>
    obtain ⟨b, as, first, rest, rfl⟩ := readEntries_cons read
    rcases List.mem_cons.mp mem with rfl | mem
    · exact ⟨_, _, first⟩
    · exact ih rest mem

end entries

theorem chunks_length (size count : Nat) (bytes : List Byte) : (chunks size count bytes).length = count := by
  induction count generalizing bytes with
  | zero => rfl
  | succ n ih => simp [chunks, ih]

/-- R67, R100: the check of an entry of T4 is its range. -/
theorem boilerSetting_inRange {i : Nat} {fields : List Nat} {e : BoilerSetting}
    (read : boilerSettingOfFields i fields = some e) : e.inRange := by
  unfold boilerSettingOfFields at read
  split at read
  · split at read
    · cases read
    · dsimp only at read
      split at read
      · cases read; assumption
      · cases read
  · cases read

/-- R78, R100: the check of an entry of T5 is its range. -/
theorem turbineSetting_inRange {i : Nat} {fields : List Nat} {e : TurbineSetting}
    (read : turbineSettingOfFields i fields = some e) : e.inRange := by
  unfold turbineSettingOfFields at read
  split at read
  · split at read
    · cases read
    · dsimp only at read
      split at read
      · cases read; assumption
      · cases read
  · cases read

/-- R79, R100: the check of an entry of T6 is its range. -/
theorem exchangerSetting_inRange {i : Nat} {fields : List Nat} {e : ExchangerSetting}
    (read : exchangerSettingOfFields i fields = some e) : e.inRange := by
  unfold exchangerSettingOfFields at read
  split at read
  · split at read
    · cases read
    · dsimp only at read
      split at read
      · cases read; assumption
      · cases read
  · cases read

/-- R80, R100: the check of the entry of T7 is its range. -/
theorem flareSetting_inRange {i : Nat} {fields : List Nat} {e : FlareSetting}
    (read : flareSettingOfFields i fields = some e) : e.inRange := by
  unfold flareSettingOfFields at read
  split at read
  · split at read
    · cases read
    · dsimp only at read
      split at read
      · cases read; assumption
      · cases read
  · cases read

/-! ## Answers -/

/-- What serving a request does before its reply is placed: a run that leaves the insertion queue. -/
structure Serves (s t : State) : Prop where
  run : Run s t
  insertion : t.port.insertion = s.port.insertion

section answers

variable {s : State}

theorem Serves.refl (s : State) : Serves s s := ⟨.refl, rfl⟩

theorem Serves.ofChanges {parts : List Part} {t : State} (run : Run s t) (changes : Changes parts s t)
    (noPort : .port ∉ parts) : Serves s t :=
  ⟨run, by rw [changes.port.resolve_left noPort]⟩

theorem Serves.one {parts : List Part} {t : State} (m : Move parts s t) (noPort : .port ∉ parts) : Serves s t :=
  .ofChanges (.one m) m.changes noPort

/-- An answer that is one of two. -/
theorem Serves.ite {c : Prop} [Decidable c] {a b : Answer} (yes : c → Serves s a.state) (no : ¬ c → Serves s b.state) :
    Serves s (if c then a else b).state := by
  split
  · exact yes ‹_›
  · exact no ‹_›

/-- An owner's entries stay within their table, when the tables have the numbers of entries they should. -/
def placesFit (s : State) (table index count : Nat) : Prop :=
  TablesShape s.tables → index + count ≤ tableLength table

theorem ownPlain_serves {α : Type} {widths : List Nat} {entryOf : Nat → List Nat → Option α}
    {put : List α → State → State} {index : Nat} {entries : List (List Byte)}
    (taken : ∀ new : List α, new.length = entries.length → (∀ a ∈ new, ∃ i fields, entryOf i fields = some a) →
      Serves s (put new s)) : Serves s (ownPlain widths entryOf put index entries s).state := by
  unfold ownPlain
  split
  · exact .refl s
  · rename_i new read
    exact taken new (readEntries_length read) fun a mem => readEntries_checked read mem

/-- A write of settings. -/
theorem settings_serves {f : Tables → Tables} (kept : TablesKept s.tables (f s.tables)) : Serves s (s.onTables f) :=
  .one (.settings s f kept) (by decide)

theorem replaceFrom_keeps_length {α : Type} {table new : List α} {k index count n : Nat} (fit : placesFit s k index count)
    (shape : TablesShape s.tables) (size : table.length = n) (whole : tableLength k = n) (all : new.length = count) :
    (replaceFrom table index new).length = n := by
  have := fit shape
  rw [replaceFrom_length (by omega), size]

theorem replaceFrom_keeps_all {α : Type} {ok : α → Prop} {table new : List α} {index : Nat} (old : ∀ a ∈ table, ok a)
    (added : ∀ a ∈ new, ok a) : ∀ a ∈ replaceFrom table index new, ok a :=
  fun a mem => (replaceFrom_mem mem).elim (old a) (added a)

theorem getLastD_keeps {α : Type} {ok : α → Prop} {new : List α} {old : α} (h : ok old) (added : ∀ a ∈ new, ok a) :
    ok (new.getLastD old) := by
  rw [List.getLastD_eq_getLast?]
  cases last : new.getLast? with
  | none => exact h
  | some a => exact added a (List.mem_of_getLast? last)

section owners

variable {index : Nat} {entries : List (List Byte)}

theorem ownT0_serves (fit : placesFit s 0 index entries.length) : Serves s (ownT0 index entries s).state := by
  unfold ownT0
  split
  · exact .refl s
  · rename_i new read
    refine .ite (fun _ => .refl s) fun few => .ite (fun _ => .refl s) fun unique => .ite (fun _ => .refl s) fun guarded =>
      .ite (fun _ => .refl s) fun _ => ?_
    have ok : StationsOk (replaceFrom s.tables.t0 index new) := by
      simp only [guardOk, Bool.not_eq_true', Bool.not_eq_false, Bool.and_eq_true] at few unique guarded
      exact ⟨few, unique, guarded.1⟩
    have written := Move.stations s _ (fun shape =>
      replaceFrom_keeps_length fit shape shape.t0 rfl (readEntries_length read)) ok
    refine ⟨(Chain.one written).trans (bindingReports_run _ s.tables.t0 _), ?_⟩
    change (bindingReports _ _ _).port.insertion = _
    rw [(bindingReports_changes _ _ _).port.resolve_left (by decide)]
    rfl

theorem ownT1_serves (fit : placesFit s 1 index entries.length) : Serves s (ownT1 index entries s).state :=
  ownPlain_serves fun _ all _ => settings_serves ⟨rfl, fun shape =>
    { shape with t1 := replaceFrom_keeps_length fit shape shape.t1 rfl all }, id⟩

theorem ownT2_serves (fit : placesFit s 2 index entries.length) : Serves s (ownT2 index entries s).state :=
  ownPlain_serves fun _ all _ => settings_serves ⟨rfl, fun shape =>
    { shape with t2 := replaceFrom_keeps_length fit shape shape.t2 rfl all }, id⟩

theorem ownT3_serves (fit : placesFit s 3 index entries.length) : Serves s (ownT3 index entries s).state :=
  ownPlain_serves fun _ all _ => settings_serves ⟨rfl, fun shape =>
    { shape with t3 := replaceFrom_keeps_length fit shape shape.t3 rfl all }, id⟩

theorem ownT4_serves (fit : placesFit s 4 index entries.length) : Serves s (ownT4 index entries s).state :=
  ownPlain_serves fun _ all checked => settings_serves ⟨rfl, fun shape =>
    { shape with t4 := replaceFrom_keeps_length fit shape shape.t4 rfl all }, fun ⟨boilers, others⟩ =>
    ⟨replaceFrom_keeps_all boilers fun e mem => let ⟨_, _, read⟩ := checked e mem; boilerSetting_inRange read, others⟩⟩

theorem ownT5_serves (fit : placesFit s 5 index entries.length) : Serves s (ownT5 index entries s).state :=
  ownPlain_serves fun _ all checked => settings_serves ⟨rfl, fun shape =>
    { shape with t5 := replaceFrom_keeps_length fit shape shape.t5 rfl all }, fun ⟨boilers, turbines, others⟩ =>
    ⟨boilers, replaceFrom_keeps_all turbines fun e mem => let ⟨_, _, read⟩ := checked e mem; turbineSetting_inRange read,
      others⟩⟩

theorem ownT6_serves (fit : placesFit s 6 index entries.length) : Serves s (ownT6 index entries s).state :=
  ownPlain_serves fun _ all checked => settings_serves ⟨rfl, fun shape =>
    { shape with t6 := replaceFrom_keeps_length fit shape shape.t6 rfl all },
    fun ⟨boilers, turbines, exchangers, flare⟩ => ⟨boilers, turbines, replaceFrom_keeps_all exchangers fun e mem =>
      let ⟨_, _, read⟩ := checked e mem; exchangerSetting_inRange read, flare⟩⟩

theorem ownT7_serves : Serves s (ownT7 index entries s).state :=
  ownPlain_serves fun _ _ checked => settings_serves ⟨rfl, fun shape => { shape with },
    fun ⟨boilers, turbines, exchangers, flare⟩ => ⟨boilers, turbines, exchangers, getLastD_keeps flare fun e mem =>
      let ⟨_, _, read⟩ := checked e mem; flareSetting_inRange read⟩⟩

theorem ownT8_serves : Serves s (ownT8 index entries s).state :=
  ownPlain_serves fun new _ _ =>
    have written := settings_serves (f := fun t => { t with t8 := new.getLastD t.t8 })
      (s := s) ⟨rfl, fun shape => { shape with }, id⟩
    ⟨written.run.then (.settingsLoaded _), rfl⟩

theorem ownT9_serves (fit : placesFit s 9 index entries.length) : Serves s (ownT9 index entries s).state :=
  ownPlain_serves fun _ all _ => settings_serves ⟨rfl, fun shape =>
    { shape with t9 := replaceFrom_keeps_length fit shape shape.t9 rfl all }, id⟩

theorem ownT10_serves (fit : placesFit s 10 index entries.length) : Serves s (ownT10 index entries s).state :=
  ownPlain_serves fun _ all _ => settings_serves ⟨rfl, fun shape =>
    { shape with t10 := replaceFrom_keeps_length fit shape shape.t10 rfl all }, id⟩

theorem ownT11_serves (fit : placesFit s 11 index entries.length) : Serves s (ownT11 index entries s).state :=
  ownPlain_serves fun _ all _ => settings_serves ⟨rfl, fun shape =>
    { shape with t11 := replaceFrom_keeps_length fit shape shape.t11 rfl all }, id⟩

theorem ownT12_serves (fit : placesFit s 12 index entries.length) : Serves s (ownT12 index entries s).state := by
  unfold ownT12
  split
  · exact .refl s
  · rename_i new read
    refine .ite (fun _ => .refl s) fun _ => ?_
    have written := settings_serves (s := s) (f := fun t => { t with t12 := replaceFrom s.tables.t12 index new })
      ⟨rfl, fun shape => { shape with
        t12 := replaceFrom_keeps_length fit shape shape.t12 rfl (readEntries_length read) }, id⟩
    refine ⟨written.run.trans (changeAccounts_run _ s.tables.t12 _), ?_⟩
    change (changeAccounts _ _ _).port.insertion = _
    rw [(changeAccounts_changes _ _ _).port.resolve_left (by decide)]
    rfl

theorem ownT13_serves : Serves s (ownT13 index entries s).state :=
  ownPlain_serves fun _ _ _ => settings_serves ⟨rfl, fun shape => { shape with }, id⟩

theorem ownT14_serves : Serves s (ownT14 index entries s).state :=
  ownPlain_serves fun new _ _ =>
    have written := settings_serves (f := fun t => { t with t14 := new.getLastD t.t14 })
      (s := s) ⟨rfl, fun shape => { shape with }, id⟩
    ⟨written.run.then (.notices _ _), rfl⟩

/-- R180: the owner of every table, for EXCHANGE. -/
theorem ownTable_serves (table : Nat) (fit : placesFit s table index entries.length) :
    Serves s (ownTable table index entries s).state := by
  unfold ownTable
  split
  · exact ownT0_serves fit
  · exact ownT1_serves fit
  · exact ownT2_serves fit
  · exact ownT3_serves fit
  · exact ownT4_serves fit
  · exact ownT5_serves fit
  · exact ownT6_serves fit
  · exact ownT7_serves
  · exact ownT8_serves
  · exact ownT9_serves fit
  · exact ownT10_serves fit
  · exact ownT11_serves fit
  · exact ownT12_serves fit
  · exact ownT13_serves
  · exact ownT14_serves
  · exact .refl s

end owners

/-- R179: the places of a WRITE are checked before its owner sees it. -/
theorem writeRequest_serves {table : Nat} {own : Nat → List (List Byte) → State → Answer}
    (owned : ∀ {index : Nat} {entries : List (List Byte)}, placesFit s table index entries.length →
      Serves s (own index entries s).state) (q : Request) (operands : List Byte) :
    Serves s (writeRequest table own q operands s).state := by
  refine .ite (fun _ => .refl s) fun _ => .ite (fun _ => .refl s) fun room => owned fun _ => ?_
  rw [chunks_length]
  exact Nat.le_of_not_lt room

theorem writeRequest0_serves (q : Request) (operands : List Byte) : Serves s (writeRequest0 q operands s).state :=
  .ite (fun _ => writeRequest_serves (fun fit => ownT0_serves fit) q operands) fun _ =>
    .ite (fun _ => .refl s) fun _ => .refl s

/-- 11.2: every configuration table reads with as many entries as it has. -/
theorem tableEntries_length {table size : Nat} {es : List (List Byte)} (shape : TablesShape s.tables)
    (known : entrySize table = some size) (entries : tableEntries s table = some es) :
    es.length = tableLength table := by
  unfold tableEntries at entries
  split at entries <;> cases entries <;>
    simp only [List.length_map, List.length_singleton, tableLength, shape.t0, shape.t1, shape.t2, shape.t3, shape.t4,
      shape.t5, shape.t6, shape.t9, shape.t10, shape.t11, shape.t12]
  all_goals cases known

theorem ownExchange_serves (q : Request) (operands : List Byte) : Serves s (ownExchange q operands s).state := by
  unfold ownExchange
  split
  · exact .ite (fun _ => .refl s) fun _ => .refl s
  · rename_i table size named
    refine .ite (fun _ => .refl s) fun _ => ?_
    dsimp only
    split
    · exact .refl s
    · rename_i current found
      refine .ite (fun _ => ownTable_serves _ fun shape => ?_) fun _ => .refl s
      obtain ⟨t, -, sized⟩ := Option.bind_eq_some_iff.mp named
      obtain ⟨n, known, same⟩ := Option.map_eq_some_iff.mp sized
      cases same
      obtain ⟨es, entries, place⟩ := Option.bind_eq_some_iff.mp found
      rw [← tableEntries_length shape known entries]
      exact (List.getElem?_eq_some_iff.mp place).1

/-! ## The owners of the other requests -/

theorem readEntriesFrom_serves (station : Byte) (table index count : Nat) (entries : List (List Byte)) :
    Serves s (readEntriesFrom station table index count entries s).state :=
  .one (.cursor s _) (by decide)

theorem ownRead_serves (q : Request) (operands : List Byte) : Serves s (ownRead q operands s).state := by
  unfold ownRead
  split
  · refine .ite (fun _ => .refl s) fun _ => ?_
    split
    · exact .refl s
    · exact .ite (fun _ => .refl s) fun _ => readEntriesFrom_serves _ _ _ _ _
  · exact .refl s

theorem ownReadOn_serves (q : Request) (operands : List Byte) : Serves s (ownReadOn q operands s).state := by
  unfold ownReadOn
  split
  · refine .ite (fun _ => .refl s) fun _ => ?_
    dsimp only
    split
    · exact .refl s
    · exact readEntriesFrom_serves _ _ _ _ _
  · exact .refl s

theorem clearStats_serves (s : State) : Serves s s.clearStats := ⟨.one (.clearStats s), rfl⟩

theorem withoutOperands_serves {owner : State → Answer} (owned : Serves s (owner s).state) (operands : List Byte) :
    Serves s (withoutOperands owner operands s).state :=
  .ite (fun _ => owned) fun _ => .refl s

theorem ownRestartSweep_serves (q : Request) (operands : List Byte) : Serves s (ownRestartSweep q operands s).state :=
  .ite (fun _ => .one (.sweepRestarts s) (by decide)) fun _ => .refl s

theorem ownRestartSettlement_serves (q : Request) (operands : List Byte) :
    Serves s (ownRestartSettlement q operands s).state :=
  .ite (fun _ => .one (.settlements s _ _ (by simp)) (by decide)) fun _ => .refl s

theorem ownReset_serves (q : Request) (operands : List Byte) : Serves s (ownReset q operands s).state :=
  withoutOperands_serves (.one (.mgmtMarks s s.mgmt.noticeDue .replyWaiting) (by decide)) operands

/-- R60: a start is taken with an empty cause set. -/
theorem startUnmet_causes (met : startUnmet s = []) : s.latch.causes = [] := by
  simp only [startUnmet, List.append_eq_nil_iff] at met
  by_contra held
  simp [held] at met

theorem ownStart_serves (q : Request) (operands : List Byte) : Serves s (ownStart q operands s).state :=
  withoutOperands_serves (.ite (fun _ => .refl s) fun _ =>
    .ite (fun met => .one (.start s (startUnmet_causes met)) (by decide)) fun _ => .refl s) operands

theorem ownStop_serves (q : Request) (operands : List Byte) : Serves s (ownStop q operands s).state :=
  withoutOperands_serves (.ite (fun _ => .one (.stop s) (by decide)) fun _ => .refl s) operands

theorem ownSetMode_serves (q : Request) (operands : List Byte) : Serves s (ownSetMode q operands s).state := by
  unfold ownSetMode
  split
  · exact .one (.mode s _) (by decide)
  · exact .one (.mode s _) (by decide)
  · exact .refl s
  · exact .refl s

theorem ownTrip_serves (q : Request) (operands : List Byte) : Serves s (ownTrip q operands s).state :=
  withoutOperands_serves (.one (.input (.cause s _)) (by decide)) operands

theorem ownResume_serves (q : Request) (operands : List Byte) : Serves s (ownResume q operands s).state :=
  withoutOperands_serves (.ite (fun _ => .one (.resume s) (by decide)) fun _ => .refl s) operands

theorem ownStartSweep_serves (q : Request) (operands : List Byte) : Serves s (ownStartSweep q operands s).state :=
  withoutOperands_serves (.ite (fun _ => .refl s) fun idle =>
    .ite (fun _ => .one (.sweepStarts s _ (.inl (not_not.mp idle))) (by decide)) fun _ => .refl s) operands

theorem ownStopSweep_serves (q : Request) (operands : List Byte) : Serves s (ownStopSweep q operands s).state :=
  withoutOperands_serves (.ite (fun _ => .refl s) fun _ => .one (.sweepStops s) (by decide)) operands

theorem ownClosePeriod_serves (q : Request) (operands : List Byte) : Serves s (ownClosePeriod q operands s).state :=
  withoutOperands_serves (.ite (fun _ => .refl s) fun room => .one (.closes s (Nat.le_of_not_lt room)) (by decide))
    operands

theorem ownFetchBilling_serves (q : Request) (operands : List Byte) : Serves s (ownFetchBilling q operands s).state := by
  unfold ownFetchBilling
  split
  · refine .ite (fun _ => .refl s) fun _ => ?_
    split <;> exact .refl s
  · exact .refl s

theorem ownReleaseBilling_serves (q : Request) (operands : List Byte) :
    Serves s (ownReleaseBilling q operands s).state := by
  refine .ite (fun _ => .refl s) fun _ => ?_
  split
  · exact .refl s
  · exact .ite (fun _ => .one (.billing s _ rfl (by simp)) (by decide)) fun _ => .refl s

theorem ownFetchSettlement_serves (q : Request) (operands : List Byte) :
    Serves s (ownFetchSettlement q operands s).state := by
  refine withoutOperands_serves ?_ operands
  split <;> exact .refl s

theorem ownReleaseSettlement_serves (q : Request) (operands : List Byte) :
    Serves s (ownReleaseSettlement q operands s).state := by
  refine .ite (fun _ => .refl s) fun _ => ?_
  split
  · exact .refl s
  · exact .ite (fun _ => .one (.settlements s _ s.tracker.pendingLoss (by simp)) (by decide)) fun _ => .refl s

theorem judgeRequest_serves {q : Request} {owner : Request → List Byte → State → Answer}
    (owned : ∀ operands, Serves s (owner q operands s).state) : Serves s (judgeRequest q owner s).state :=
  .ite (fun _ => .refl s) fun _ => .ite (fun _ => owned _) fun _ => .refl s

end answers

theorem freeSlot_congr {s t : State} (same : t.port.insertion = s.port.insertion) (q : Quota) :
    t.freeSlot q = s.freeSlot q := by
  rw [State.freeSlot, State.freeSlot, same]

/-- R173: a served request leaves the queue, is judged, and its reply takes the slot that was free. -/
theorem serve_run {command : Instr} {owner : Request → List Byte → State → Answer}
    (owned : ∀ {s : State} (q : Request) (operands : List Byte), Serves s (owner q operands s).state) (s : State) :
    Run s (serve command owner s) := by
  unfold serve
  split
  · exact .refl
  · rename_i q rest queued
    refine .ite (fun served => ?_) fun _ => .refl
    have slot : s.freeSlot .reply = true := by
      simp only [canServe, Bool.and_eq_true] at served
      exact served.1.1
    have taken := Chain.one (Move.requests s rest (.inl (by simp [queued])))
    obtain ⟨judged, insertion⟩ := judgeRequest_serves (s := { s with mgmt := { s.mgmt with queue := rest } })
      (owned q)
    refine (taken.trans judged).then (.place _ _ (by rintro ⟨⟩) ?_)
    exact (freeSlot_congr (t := Answer.state _) insertion .reply).trans slot

/-! ## Every command and every step -/

theorem act_run {f : State → State} (run : ∀ s, Run s (f s)) (s : State) : ∃ t, act s f = .next t ∧ Run s t :=
  ⟨_, rfl, .ite (fun _ => run s) fun _ => .refl⟩

theorem exec_run (c : Instr) (s : State) : ∃ t, exec c s = .next t ∧ Run s t := by
  have resets : ∀ (c : Prop) [Decidable c] (t : State), Run s t → Run s (if c then t else s) := fun c _ t r =>
    .ite (fun _ => r) fun _ => .refl
  have held : ∀ straps out, Run s (resetHeld straps out s) := fun _ _ => .one (.reset s _ _ _)
  have ended : ∀ straps out, Run s (resetEnds straps out s) := fun _ _ => .one (.reset s _ _ _)
  cases c with
  | powerOnReset straps => exact ⟨_, rfl, .ite (fun _ => held _ _) fun _ => ended _ _⟩
  | resetInputAsserted => exact ⟨_, rfl, held _ _⟩
  | resetInputReleased straps => exact ⟨_, rfl, resets _ _ (ended _ _)⟩
  | strapsValid straps => exact ⟨_, rfl, resets _ _ (ended _ _)⟩
  | resetRequestEffect straps => exact ⟨_, rfl, resets _ _ (ended _ _)⟩
  | frameReceived elapsed line =>
    obtain ⟨t, received, run⟩ := act_run (receive_run · line) (s.advanceTo (s.now + elapsed))
    exact ⟨t, received, (advanceTo_run s _).trans run⟩
  | transitFrameDeparts => exact act_run (fun s => .one (.transitDeparts s)) s
  | transitFrameLeft => exact act_run (fun s => .one (.transitLeaves s)) s
  | insertedFrameDeparts => exact act_run (fun s => .one (.insertedDeparts s)) s
  | insertedFrameLeft => exact act_run (fun s => .one (.insertedLeaves s)) s
  | lapTimerExpiry seq => exact act_run (lapEffect_run · seq) s
  | probeTimerExpiry => exact act_run probeEffect_run s
  | clockSecondCount => exact act_run countSecond_run s
  | adoptionIntervalExpiry => exact act_run adoptionEffect_run s
  | blowLimitExpiry => exact act_run blowLimitEffect_run s
  | tailExpiry => exact act_run tailEffect_run s
  | periodBoundary => exact act_run boundaryEffect_run s
  | computationCompletion => exact act_run (fun s => .one (.completion s)) s
  | replyTimerExpiry account => exact act_run (replyTimeout_run · account) s
  | intervalTimerExpiry => exact act_run intervalEffect_run s
  | accountVisit => exact act_run visitAccount_run s
  | retryPlacement => exact act_run placeRetry_run s
  | noticeIntervalExpiry => exact act_run noticeIntervalEffect_run s
  | noticeFrameBuilt => exact act_run buildNotice_run s
  | badRequestCode => exact act_run (serve_run fun _ _ => .refl _) s
  | read => exact act_run (serve_run ownRead_serves) s
  | readOn => exact act_run (serve_run ownReadOn_serves) s
  | writeT0 => exact act_run (serve_run writeRequest0_serves) s
  | writeT1 => exact act_run (serve_run (writeRequest_serves ownT1_serves)) s
  | writeT2 => exact act_run (serve_run (writeRequest_serves ownT2_serves)) s
  | writeT3 => exact act_run (serve_run (writeRequest_serves ownT3_serves)) s
  | writeT4 => exact act_run (serve_run (writeRequest_serves ownT4_serves)) s
  | writeT5 => exact act_run (serve_run (writeRequest_serves ownT5_serves)) s
  | writeT6 => exact act_run (serve_run (writeRequest_serves ownT6_serves)) s
  | writeT7 => exact act_run (serve_run (writeRequest_serves fun _ => ownT7_serves)) s
  | writeT8 => exact act_run (serve_run (writeRequest_serves fun _ => ownT8_serves)) s
  | writeT9 => exact act_run (serve_run (writeRequest_serves ownT9_serves)) s
  | writeT10 => exact act_run (serve_run (writeRequest_serves ownT10_serves)) s
  | writeT11 => exact act_run (serve_run (writeRequest_serves ownT11_serves)) s
  | writeT12 => exact act_run (serve_run (writeRequest_serves ownT12_serves)) s
  | writeT13 => exact act_run (serve_run (writeRequest_serves fun _ => ownT13_serves)) s
  | writeT14 => exact act_run (serve_run (writeRequest_serves fun _ => ownT14_serves)) s
  | exchange => exact act_run (serve_run ownExchange_serves) s
  | readStats => exact act_run (serve_run fun _ _ => .ite (fun _ => .refl _) fun _ => .refl _) s
  | readStatsClear => exact act_run (serve_run fun _ _ => .ite (fun _ => clearStats_serves _) fun _ => .refl _) s
  | restartSweep => exact act_run (serve_run ownRestartSweep_serves) s
  | restartSettlementQueue => exact act_run (serve_run ownRestartSettlement_serves) s
  | restartStatistics => exact act_run (serve_run fun _ _ => .ite (fun _ => clearStats_serves _) fun _ => .refl _) s
  | reset => exact act_run (serve_run ownReset_serves) s
  | startAllocation => exact act_run (serve_run ownStart_serves) s
  | stopAllocation => exact act_run (serve_run ownStop_serves) s
  | setMode => exact act_run (serve_run ownSetMode_serves) s
  | trip => exact act_run (serve_run ownTrip_serves) s
  | resume => exact act_run (serve_run ownResume_serves) s
  | startSweep => exact act_run (serve_run ownStartSweep_serves) s
  | stopSweep => exact act_run (serve_run ownStopSweep_serves) s
  | closePeriod => exact act_run (serve_run ownClosePeriod_serves) s
  | fetchBilling => exact act_run (serve_run ownFetchBilling_serves) s
  | releaseBilling => exact act_run (serve_run ownReleaseBilling_serves) s
  | fetchSettlement => exact act_run (serve_run ownFetchSettlement_serves) s
  | releaseSettlement => exact act_run (serve_run ownReleaseSettlement_serves) s

/-- No run touches the queue of commands. -/
theorem Run.pending {s t : State} (run : Run s t) : t.pending = s.pending :=
  Chain.keeps (law := fun t => t.pending = s.pending) run (fun m h => m.changes.pending.trans h) rfl

/-- What an idle part does is a move of time or of its free choices, and a command it stands ready for. -/
theorem idleChoice_run (s : State) : Run s (idleChoice s).2 := by
  unfold idleChoice
  split
  · exact .one (.time _ _)
  · exact .refl
  · exact .one (.choice _ _)

/-- A step is a run of moves from the part with its command taken out of the queue. -/
theorem step_run (s : State) : ∃ t rest, step s = .next t ∧ Run { s with pending := rest } t := by
  unfold step
  split
  · rename_i c rest _
    obtain ⟨t, done, run⟩ := exec_run c { s with pending := rest }
    exact ⟨t, rest, done, run⟩
  · rename_i empty
    have chosen := idleChoice_run s
    split
    · rename_i c s1 choice
      rw [choice] at chosen
      obtain ⟨t, done, run⟩ := exec_run c s1
      exact ⟨t, s.pending, done, Chain.trans chosen run⟩
    · rename_i s1 choice
      rw [choice] at chosen
      exact ⟨s1, s.pending, rfl, chosen⟩

/-- A law that no move breaks, and that says nothing of the queue of commands, is kept by every step. -/
theorem step_keeps {law : State → Prop} (queue : ∀ s rest, law s → law { s with pending := rest })
    (moves : ∀ {parts : List Part} {s t : State}, Move parts s t → law s → law t) {s t : State}
    (stepped : step s = .next t) (h : law s) : law t := by
  obtain ⟨u, rest, done, run⟩ := step_run s
  cases stepped.symm.trans done
  exact run.keeps moves (queue s rest h)

end Sys2Proof.Machine
end

section
/-! The laws of the Trip Latch, the allocation and its block, the clock, the blow window, the origin counters and the
station table: no move breaks one. -/

namespace Sys2Proof.Machine

/-! ## What a cause, a breaker status and a closed block change -/

section effects

variable (s : State)

theorem causeTold_latch (c : Cause) : (s.causeTold c).latch = (s.causeEntered c).latch := State.notice_latch _ _ _

/-- R120: of the Trip Latch a cause that enters changes the set and its first cause. -/
theorem raiseCause_latch {c : Cause} (new : ¬ s.hasCause c = true) : (raiseCause c s).latch = (s.causeEntered c).latch := by
  rw [raiseCause_new s new, (tripIfRunning_changes _).latch.resolve_left (by decide), causeTold_latch]

/-- R121: a cause stops no allocation and starts none. -/
theorem raiseCause_stopped_iff (c : Cause) : (raiseCause c s).alloc.state = .stopped ↔ s.alloc.state = .stopped := by
  by_cases known : s.hasCause c = true
  · rw [raiseCause_known s known]
  · rw [raiseCause_new s known, ← causeTold_alloc s c]
    by_cases running : (s.causeTold c).alloc.state = .running
    · rw [tripIfRunning_running _ running]
      simp [running]
    · rw [tripIfRunning_idle _ running]

/-- R123: of the Export Tracker a cause changes the mark of the current block alone. -/
theorem raiseCause_tracker (c : Cause) :
    ∃ f, (raiseCause c s).tracker = { s.tracker with block := s.tracker.block.map f } := by
  have same : s.tracker = { s.tracker with block := s.tracker.block.map id } := by rw [Option.map_id]; rfl
  have told : (s.causeTold c).tracker = s.tracker := State.notice_tracker _ _ _
  by_cases known : s.hasCause c = true
  · exact ⟨id, by rw [raiseCause_known s known, ← same]⟩
  · rw [raiseCause_new s known]
    by_cases running : (s.causeTold c).alloc.state = .running
    · exact ⟨_, by rw [tripIfRunning_running _ running, ← told]; rfl⟩
    · exact ⟨id, by rw [tripIfRunning_idle _ running, told, ← same]⟩

/-- R118: of the Trip Latch a breaker status moves the overlay alone. -/
theorem breakerStatus_latch (v : Int) : ∃ island, (breakerStatus v s).latch = { s.latch with island := island } := by
  unfold breakerStatus
  split
  · split
    · exact ⟨_, rfl⟩
    · dsimp only
      split <;> exact ⟨true, rfl⟩
  · exact ⟨false, rfl⟩

/-- R118, R134: of the Export Tracker a breaker status changes the mark of the current block alone. -/
theorem breakerStatus_tracker (v : Int) :
    ∃ f, (breakerStatus v s).tracker = { s.tracker with block := s.tracker.block.map f } := by
  have same : s.tracker = { s.tracker with block := s.tracker.block.map id } := by rw [Option.map_id]; rfl
  unfold breakerStatus
  split
  · split
    · exact ⟨id, same⟩
    · dsimp only
      split
      · exact ⟨id, same⟩
      · exact ⟨_, rfl⟩
  · exact ⟨id, same⟩

theorem appendSettlement_tracker (b : Block) : ∃ r, (appendSettlement b s).tracker =
    { s.tracker with queue := pushCapped 16 s.tracker.queue r, nextNumber := (s.tracker.nextNumber + 1) % 65536
                     pendingLoss := 0 } :=
  ⟨settle b s.tracker.nextNumber (if 16 ≤ s.tracker.queue.length then saturating 255 s.tracker.pendingLoss 1
    else s.tracker.pendingLoss), by simp only [appendSettlement, State.notice_tracker]⟩

theorem closeBlock_block : (closeBlock s).tracker.block = none := by
  unfold closeBlock
  split
  · assumption
  · obtain ⟨r, e⟩ := appendSettlement_tracker { s with tracker := { s.tracker with block := none } } ‹_›
    rw [e]

theorem closeBlock_queue (room : s.tracker.queue.length ≤ 16) : (closeBlock s).tracker.queue.length ≤ 16 := by
  unfold closeBlock
  split
  · exact room
  · obtain ⟨r, e⟩ := appendSettlement_tracker { s with tracker := { s.tracker with block := none } } ‹_›
    rw [e]
    exact pushCapped_length r (by decide) room

theorem accountSeconds_block (e : Int) (n : Nat) :
    (accountSeconds e n s).tracker.block.isSome = s.tracker.block.isSome := by
  simp [accountSeconds]

theorem accountBoundary_block (n : Nat) : (accountBoundary n s).tracker.block.isSome = s.tracker.block.isSome := by
  unfold accountBoundary
  dsimp only
  split
  · rfl
  · rename_i b current
    split
    · exact accountSeconds_block _ _ _
    · rw [accountSeconds_block, current]
      rfl

theorem accountBoundary_queue (n : Nat) (room : s.tracker.queue.length ≤ 16) :
    (accountBoundary n s).tracker.queue.length ≤ 16 := by
  unfold accountBoundary
  dsimp only
  split
  · exact room
  · split
    · exact room
    · exact closeBlock_queue _ room

theorem trackerClockStep_block (runs : s.alloc.state ≠ .stopped) : (trackerClockStep s).tracker.block.isSome = true := by
  simp [trackerClockStep, runs, openBlock]

theorem trackerClockStep_stopped (stopped : s.alloc.state = .stopped) : trackerClockStep s = s := by
  simp [trackerClockStep, stopped]

theorem trackerClockStep_queue (room : s.tracker.queue.length ≤ 16) :
    (trackerClockStep s).tracker.queue.length ≤ 16 := by
  unfold trackerClockStep
  split
  · exact room
  · exact closeBlock_queue _ room

end effects

variable {parts : List Part} {s t : State}

/-! ## R116, R121: the causes and the state -/

theorem tripLaw_congr (state : t.alloc.state = s.alloc.state) (causes : t.latch.causes = s.latch.causes) (h : tripLaw s) :
    tripLaw t := by
  unfold tripLaw
  rw [state, causes]
  exact h

theorem tripLaw_frame (c : Changes parts s t) (alloc : .alloc ∉ parts) (latch : .latch ∉ parts) (h : tripLaw s) :
    tripLaw t :=
  tripLaw_congr (by rw [c.alloc.resolve_left alloc]) (by rw [c.latch.resolve_left latch]) h

theorem raiseCause_tripLaw (c : Cause) (h : tripLaw s) : tripLaw (raiseCause c s) := by
  by_cases known : s.hasCause c = true
  · rwa [raiseCause_known s known]
  · have held : (raiseCause c s).latch.causes ≠ [] := by simp [raiseCause_latch s known, State.causeEntered]
    suffices moved : (raiseCause c s).alloc.state ≠ .running by
      simp only [tripLaw, held, ne_eq, not_false_eq_true, and_true]
      revert moved
      cases (raiseCause c s).alloc.state <;> simp
    rw [raiseCause_new s known]
    by_cases running : (s.causeTold c).alloc.state = .running
    · rw [tripIfRunning_running _ running]
      simp
    · rwa [tripIfRunning_idle _ running]

theorem move_tripLaw (m : Move parts s t) (h : tripLaw s) : tripLaw t := by
  have frame := m.changes
  cases m with
  | input m =>
    cases m with
    | cause => exact raiseCause_tripLaw _ h
    | breaker _ v =>
      obtain ⟨island, latch⟩ := breakerStatus_latch s v
      exact tripLaw_congr (by rw [frame.alloc.resolve_left (by decide)]) (by rw [latch]) h
    | _ => exact tripLaw_frame frame (by decide) (by decide) h
  | reset => simp [tripLaw, State.atReset, Alloc.initial]
  | countOrigin | openPeriod | mode | settingsLoaded => exact h
  | completion =>
    exact tripLaw_congr (by unfold completionEffect; split <;> rfl) (by rw [frame.latch.resolve_left (by decide)]) h
  | start _ clear => simp [tripLaw, startEffect, trackerStart, openBlock, initialiseLimits, clear]
  | stop => simp [tripLaw, stopEffect]
  | resume =>
    unfold resumeEffect
    split
    · simp [tripLaw]
    · rename_i untripped
      simp [tripLaw, untripped]
  | _ => exact tripLaw_frame frame (by decide) (by decide) h

theorem causeLaw_congr (causes : t.latch.causes = s.latch.causes) (first : t.latch.firstCause = s.latch.firstCause)
    (h : causeLaw s) : causeLaw t := by
  unfold causeLaw
  rw [causes, first]
  exact h

theorem causeLaw_frame (c : Changes parts s t) (latch : .latch ∉ parts) (h : causeLaw s) : causeLaw t :=
  causeLaw_congr (by rw [c.latch.resolve_left latch]) (by rw [c.latch.resolve_left latch]) h

theorem raiseCause_causeLaw (c : Cause) (h : causeLaw s) : causeLaw (raiseCause c s) := by
  by_cases known : s.hasCause c = true
  · rwa [raiseCause_known s known]
  · obtain ⟨distinct, first⟩ := h
    have absent : ∀ e ∈ s.latch.causes, e.cause ≠ c := by simpa [State.hasCause] using known
    refine ⟨?_, ?_⟩
    · rw [raiseCause_latch s known]
      simpa [State.causeEntered, List.nodup_append, distinct] using fun e mem => absent e mem
    · rw [raiseCause_latch s known]
      by_cases empty : s.latch.causes = []
      · simp [State.causeEntered, empty]
      · simp [State.causeEntered, empty, first]

theorem move_causeLaw (m : Move parts s t) (h : causeLaw s) : causeLaw t := by
  have frame := m.changes
  cases m with
  | input m =>
    cases m with
    | cause => exact raiseCause_causeLaw _ h
    | breaker _ v =>
      obtain ⟨island, latch⟩ := breakerStatus_latch s v
      exact causeLaw_congr (by rw [latch]) (by rw [latch]) h
    | _ => exact causeLaw_frame frame (by decide) h
  | reset => simp [causeLaw, State.atReset, Latch.initial]
  | mode => exact h
  | resume =>
    unfold resumeEffect
    split <;> simp [causeLaw]
  | _ => exact causeLaw_frame frame (by decide) h

/-! ## R62, R63, R130: the period, the block and the computation -/

theorem blockLaw_congr (stopped : t.alloc.state = .stopped ↔ s.alloc.state = .stopped)
    (period : t.alloc.period.isSome = s.alloc.period.isSome) (block : t.tracker.block.isSome = s.tracker.block.isSome)
    (computing : t.alloc.computing.isSome = true → s.alloc.computing.isSome = true) (h : blockLaw s) : blockLaw t := by
  obtain ⟨runs, current, flight⟩ := h
  unfold blockLaw
  rw [period, block, ne_eq, stopped]
  exact ⟨runs, current, fun c => flight (computing c)⟩

theorem blockLaw_frame (c : Changes parts s t) (alloc : .alloc ∉ parts) (tracker : .tracker ∉ parts) (h : blockLaw s) :
    blockLaw t := by
  have same := c.alloc.resolve_left alloc
  exact blockLaw_congr (by rw [same]) (by rw [same]) (by rw [c.tracker.resolve_left tracker]) (by simp [same]) h

/-- With a period in progress, a block of its own, and the allocation not STOPPED, the law holds. -/
theorem blockLaw_running (active : t.alloc.state ≠ .stopped) (period : t.alloc.period.isSome = true)
    (block : t.tracker.block.isSome = true) : blockLaw t :=
  ⟨iff_of_true period active, iff_of_true block active, fun _ => active⟩

theorem move_blockLaw (m : Move parts s t) (h : blockLaw s) : blockLaw t := by
  have frame := m.changes
  cases m with
  | input m =>
    cases m with
    | cause _ c =>
      obtain ⟨state, alloc⟩ := raiseCause_alloc s c
      obtain ⟨f, tracker⟩ := raiseCause_tracker s c
      exact blockLaw_congr (raiseCause_stopped_iff s c) (by rw [alloc]) (by simp [tracker]) (by simp [alloc]) h
    | breaker _ v =>
      obtain ⟨f, tracker⟩ := breakerStatus_tracker s v
      have alloc := frame.alloc.resolve_left (by decide)
      exact blockLaw_congr (by rw [alloc]) (by rw [alloc]) (by simp [tracker]) (by simp [alloc]) h
    | _ => exact blockLaw_frame frame (by decide) (by decide) h
  | reset => simp [blockLaw, State.atReset, Alloc.initial, Tracker.initial]
  | countOrigin | settingsLoaded | settlements => exact h
  | accountBoundary _ n =>
    have alloc := frame.alloc.resolve_left (by decide)
    exact blockLaw_congr (by rw [alloc]) (by rw [alloc]) (accountBoundary_block s n) (by simp [alloc]) h
  | openPeriod _ runs =>
    have active := h.1.mp runs
    exact blockLaw_running active rfl (by simpa [openPeriod, handTarget] using h.2.1.mpr active)
  | completion =>
    unfold completionEffect
    split
    · exact h
    · exact blockLaw_congr (s := s) Iff.rfl rfl rfl (by simp [takeGrants]) h
  | start => exact blockLaw_running (by simp [startEffect, trackerStart, openBlock, initialiseLimits]) rfl rfl
  | stop => simp [blockLaw, stopEffect, trackerStop, closeBlock_block]
  | resume =>
    unfold resumeEffect
    split
    · rename_i tripped
      exact blockLaw_congr (by simp [tripped]) (by simp) (by simp) (by simp) h
    · exact blockLaw_congr (by simp) (by simp) (by simp) (by simp) h
  | clockStep =>
    by_cases stopped : s.alloc.state = .stopped
    · rwa [trackerClockStep_stopped s stopped]
    · have alloc := frame.alloc.resolve_left (by decide)
      exact blockLaw_running (by rwa [alloc]) (by rw [alloc]; exact h.1.mpr stopped) (trackerClockStep_block s stopped)
  | _ => exact blockLaw_frame frame (by decide) (by decide) h

/-! ## R39, R43: the works clock -/

theorem clockLaw_frame (c : Changes parts s t) (clock : .clock ∉ parts) (h : clockLaw s) : clockLaw t := by
  unfold clockLaw
  rw [c.clock.resolve_left clock]
  exact h

theorem move_clockLaw (m : Move parts s t) (h : clockLaw s) : clockLaw t := by
  have frame := m.changes
  cases m with
  | reset => simp [clockLaw, State.atReset, Clock.initial]
  | adopted _ seconds day dayType next adoption inDay dayFits => exact ⟨inDay, dayFits, by simp, by simp⟩
  | ticks _ seconds day next runs inDay dayFits =>
    obtain ⟨-, day, counts, adoption⟩ := h
    exact ⟨inDay, dayFits day, by simp [← counts, runs], adoption⟩
  | adoptionEnds _ valid =>
    obtain ⟨seconds, day, counts, -⟩ := h
    exact ⟨seconds, day, by simp [counts, valid], by simp⟩
  | input m => cases m <;> exact clockLaw_frame frame (by decide) h
  | _ => exact clockLaw_frame frame (by decide) h

/-! ## R50, R51, R54: the blow window -/

theorem windowLaw_congr (window : t.holder.window = s.holder.window) (h : windowLaw s) : windowLaw t := by
  unfold windowLaw
  rw [window]
  exact h

theorem windowLaw_frame (c : Changes parts s t) (holder : .holder ∉ parts) (h : windowLaw s) : windowLaw t :=
  windowLaw_congr (by rw [c.holder.resolve_left holder]) h

theorem startBlow_windowLaw (ready : s.holder.window.stuck = false) : windowLaw (startBlow s) := by
  simp [windowLaw, startBlow, ready]

theorem endBlow_windowLaw (duration : Nat) (ending : BlowEnd) (blowing : s.holder.window.state = .blowing)
    (h : windowLaw s) : windowLaw (endBlow duration ending s) := by
  obtain ⟨start, -, -, -⟩ := h
  have started : s.holder.window.start.isSome = true := start.mpr (by simp [blowing])
  by_cases tail : ending = .normal ∧ (s.holderSetting 1).postBlow ≠ 0
  · obtain ⟨rfl, post⟩ := tail
    simp [windowLaw, endBlow, logBlow, post, started]
  · simp only [windowLaw, endBlow, tail, if_false]
    cases ending <;> simp

theorem blowStatus_windowLaw (v : Int) (h : windowLaw s) : windowLaw (blowStatus v s) := by
  unfold blowStatus
  dsimp only
  split
  · split
    · split
      · exact h
      · rename_i ready
        exact startBlow_windowLaw (by simpa using ready)
    · exact h
    · rename_i tail
      refine startBlow_windowLaw ?_
      rw [← Bool.not_eq_true]
      exact fun stuck => by simp [h.2.2.2 stuck] at tail
  · split
    · rename_i idle
      obtain ⟨start, limit, tail, -⟩ := h
      exact ⟨start, limit, tail, by simp⟩
    · exact endBlow_windowLaw _ _ ‹_› h
    · exact h

theorem move_windowLaw (m : Move parts s t) (h : windowLaw s) : windowLaw t := by
  have frame := m.changes
  cases m with
  | input m =>
    cases m with
    | level => exact h
    | blow _ v => exact blowStatus_windowLaw v h
    | _ => exact windowLaw_frame frame (by decide) h
  | reset => simp [windowLaw, State.atReset, Holder.initial, BlowWindow.initial]
  | blowLimit _ duration blowing => exact endBlow_windowLaw _ _ blowing h
  | tailEnds _ tail =>
    obtain ⟨-, limit, -, stuck⟩ := h
    have noLimit : s.holder.window.limitTimer = none := by
      rw [← Option.not_isSome_iff_eq_none]
      exact fun runs => by simp [tail] at limit; simp [limit] at runs
    simp [windowLaw, noLimit]
  | _ => exact windowLaw_frame frame (by decide) h

/-! ## R92, R93: the origin per-mille and counters -/

theorem originLaw_congr (rho : t.alloc.rho = s.alloc.rho) (recovered : t.alloc.recCounter = s.alloc.recCounter)
    (top : t.alloc.topCounter = s.alloc.topCounter) (h : originLaw s) : originLaw t := by
  unfold originLaw
  rw [rho, recovered, top]
  exact h

theorem originLaw_frame (c : Changes parts s t) (alloc : .alloc ∉ parts) (h : originLaw s) : originLaw t := by
  have same := c.alloc.resolve_left alloc
  exact originLaw_congr (by rw [same]) (by rw [same]) (by rw [same]) h

/-- R92: a part is no more than 1000 per-mille of the whole. -/
theorem originPerMille_le {inForce : Nat} (fits : inForce ≤ 1000) (heat topHeat : Nat) :
    originPerMille inForce heat topHeat ≤ 1000 := by
  unfold originPerMille
  split
  · exact fits
  · exact Nat.div_le_of_le_mul (by rw [Nat.mul_comm]; exact Nat.mul_le_mul_right _ (Nat.le_add_right _ _))

theorem move_originLaw (m : Move parts s t) (h : originLaw s) : originLaw t := by
  have frame := m.changes
  cases m with
  | input m =>
    cases m with
    | cause _ c =>
      obtain ⟨state, alloc⟩ := raiseCause_alloc s c
      exact originLaw_congr (by rw [alloc]) (by rw [alloc]) (by rw [alloc]) h
    | _ => exact originLaw_frame frame (by decide) h
  | reset => simp [originLaw, State.atReset, Alloc.initial]
  | countOrigin => exact ⟨h.1, Nat.min_le_left _ _, Nat.min_le_left _ _⟩
  | openPeriod | start | settingsLoaded => exact h
  | completion =>
    unfold completionEffect
    split
    · exact h
    · exact ⟨originPerMille_le h.1 _ _, h.2⟩
  | stop =>
    have alloc : (trackerStop s).alloc = s.alloc := (trackerStop_changes s).alloc.resolve_left (by decide)
    exact originLaw_congr (by simp [stopEffect, alloc]) (by simp [stopEffect, alloc]) (by simp [stopEffect, alloc]) h
  | resume =>
    unfold resumeEffect
    split <;> exact originLaw_congr (by simp) (by simp) (by simp) h
  | _ => exact originLaw_frame frame (by decide) h

/-! ## R22 to R24: the station table -/

theorem stationLaw_congr (t0 : t.tables.t0 = s.tables.t0) (h : stationLaw s) : stationLaw t := by
  unfold stationLaw State.bindings
  rw [t0]
  exact h

theorem stationLaw_frame (c : Changes parts s t) (tables : .tables ∉ parts) (h : stationLaw s) : stationLaw t :=
  stationLaw_congr (by rw [c.tables.resolve_left tables]) h

theorem move_stationLaw (m : Move parts s t) (h : stationLaw s) : stationLaw t := by
  have frame := m.changes
  cases m with
  | input m => cases m <;> exact stationLaw_frame frame (by decide) h
  | reset => simp [stationLaw, State.bindings, State.atReset, Tables.initial, mgmtCountOk, uniqueBindings, lockoutOk]
  | roll => exact h
  | stations _ t0 _ ok => exact ⟨ok.few, ok.unique, ok.engineer⟩
  | settings _ f kept => exact stationLaw_congr kept.stations h
  | _ => exact stationLaw_frame frame (by decide) h

end Sys2Proof.Machine
end

section
namespace Sys2Proof.Proofs
open Sys2Proof.Machine

/-- Settles O57: both laws speak of the latch and of the allocation state alone, and every move that touches one of them
keeps the two in agreement (`move_tripLaw`, `move_causeLaw`). -/
theorem tripLawKept : Obligations.TripLawKept := by
  intro s t stepped
  exact ⟨step_keeps (fun _ _ h => h) move_tripLaw stepped, step_keeps (fun _ _ h => h) move_causeLaw stepped⟩

end Sys2Proof.Proofs
end

section
/-! The laws of the queues, the quotas, the sets and the outstanding polls: no move breaks one. -/

namespace Sys2Proof.Machine

variable {parts : List Part} {s t : State}

/-! ## R9, R14, R15: the port -/

theorem portLaw_congr (transit : t.port.transit = s.port.transit) (own : t.port.ownSet = s.port.ownSet)
    (misses : t.port.missCount = s.port.missCount) (h : portLaw s) : portLaw t := by
  unfold portLaw
  rw [transit, own, misses]
  exact h

theorem portLaw_frame (c : Changes parts s t) (port : .port ∉ parts) (h : portLaw s) : portLaw t := by
  have same := c.port.resolve_left port
  exact portLaw_congr (by rw [same]) (by rw [same]) (by rw [same]) h

section departures

variable (s)

/-- R10: the frame that leaves the transit queue for RING-OUT, and what the Governor records of it. -/
def departing (x : TransitFrame) : List Byte × State :=
  if frameKind x.bytes = kindDemand then governDemand s x.bytes x.usable else (x.bytes, s)

theorem departing_changes (x : TransitFrame) : Changes [.governor] s (departing s x).2 := by
  unfold departing
  split
  · exact governDemand_changes _ _ _
  · exact .refl _ _

theorem departTransit_oldest {x : TransitFrame} {rest : List TransitFrame} (oldest : s.port.transit = x :: rest)
    (free : s.ringOutFree = true) :
    departTransit s = { (departing s x).2 with port := { s.port with ringOut := .transit (departing s x).1 } } := by
  have port := (departing_changes s x).port.resolve_left (by decide)
  rw [← port]
  unfold departTransit
  split
  · rename_i empty
    exact absurd (empty.symm.trans oldest) (by simp)
  · rename_i y ys front
    cases front.symm.trans oldest
    rw [if_pos free]
    rfl

theorem departTransit_empty (empty : s.port.transit = []) : departTransit s = s := by
  simp [departTransit, empty]

theorem departTransit_busy (busy : ¬ s.ringOutFree = true) : departTransit s = s := by
  unfold departTransit
  split
  · rfl
  · simp [busy]

/-- R10: either nothing departs, or the oldest transit frame does. -/
theorem departTransit_cases : departTransit s = s ∨ ∃ x rest, s.port.transit = x :: rest ∧ s.ringOutFree = true ∧
    departTransit s = { (departing s x).2 with port := { s.port with ringOut := .transit (departing s x).1 } } := by
  cases oldest : s.port.transit with
  | nil => exact .inl (departTransit_empty s oldest)
  | cons x rest =>
    by_cases free : s.ringOutFree = true
    · exact .inr ⟨x, rest, rfl, free, departTransit_oldest s oldest free⟩
    · exact .inl (departTransit_busy s free)

/-- R11: the port once a transit frame has left. -/
def Port.transitGone (p : Port) (bytes : List Byte) : Port :=
  { p with transit := p.transit.drop 1, ringOut := .flags, lastOut := some (.whole bytes) }

theorem leaveTransit_sent {bytes : List Byte} (sent : s.port.ringOut = .transit bytes) :
    leaveTransit s = { settleLine s with port := (s.count .forwarded).port.transitGone bytes } := by
  have port := (settleLine_changes s).port.resolve_left (by decide)
  simp only [leaveTransit, sent, State.count, port]
  rfl

theorem leaveTransit_idle (none : ∀ bytes, s.port.ringOut ≠ .transit bytes) : leaveTransit s = s := by
  unfold leaveTransit
  split
  · exact absurd ‹_› (none _)
  · rfl

theorem leaveTransit_cases : leaveTransit s = s ∨ ∃ bytes, s.port.ringOut = .transit bytes ∧
    leaveTransit s = { settleLine s with port := (s.count .forwarded).port.transitGone bytes } := by
  by_cases sends : ∃ bytes, s.port.ringOut = .transit bytes
  · obtain ⟨bytes, sent⟩ := sends
    exact .inr ⟨bytes, sent, leaveTransit_sent s sent⟩
  · exact .inl (leaveTransit_idle s fun bytes sent => sends ⟨bytes, sent⟩)

/-- R13, R14: the port as an inserted frame departs. -/
def State.startsInserted (s : State) (f : Inserted) : State :=
  { s with port := { s.port with
    ringOut := .inserted (insertedBytes f s) (departSeq f s)
    ownSet := s.port.ownSet ++ [⟨departSeq f s, none⟩]
    seqCounter := if f.echo = none then departSeq f s + 1 else s.port.seqCounter } }

theorem departInserted_cases : departInserted s = s ∨ ∃ f rest, s.port.insertion = f :: rest ∧
    s.ringOutFree = true ∧ s.port.transit = [] ∧ mayStart f s = true ∧ departInserted s = s.startsInserted f := by
  unfold departInserted
  split
  · exact .inl rfl
  · rename_i f rest oldest
    split
    · rename_i starts
      exact .inr ⟨f, rest, oldest, starts.1, starts.2.1, starts.2.2, rfl⟩
    · exact .inl rfl

/-- R14: of the port an own frame that has left changes its place, the lap timers, the probe timer and the counters. -/
theorem leaveInserted_cases : leaveInserted s = s ∨ ∃ bytes seq f rest, s.port.ringOut = .inserted bytes seq ∧
    s.port.insertion = f :: rest ∧ (leaveInserted s).port = (s.insertedGone bytes seq rest).port ∧
    (leaveInserted s).sweep = if f.quota = .poll then (pollLeft seq (s.insertedGone bytes seq rest)).sweep
      else s.sweep := by
  by_cases sends : ∃ bytes seq f rest, s.port.ringOut = .inserted bytes seq ∧ s.port.insertion = f :: rest
  · obtain ⟨bytes, seq, f, rest, sent, oldest⟩ := sends
    refine .inr ⟨bytes, seq, f, rest, sent, oldest, ?_⟩
    have port := (pollLeft_changes (s.insertedGone bytes seq rest) seq).port.resolve_left (by decide)
    rw [leaveInserted_sent sent oldest]
    by_cases poll : f.quota = .poll <;> by_cases ends : f.endsPart = true <;> simp [poll, ends, port] <;> rfl
  · exact .inl (leaveInserted_idle fun bytes seq f rest sent oldest => sends ⟨bytes, seq, f, rest, sent, oldest⟩)

end departures

/-- R13: tries that fail all stand in the own-frame set. -/
theorem nextFreeSeq_spec (s : State) (tries : Nat) (v : Byte) :
    ∃ n ≤ tries, nextFreeSeq s tries v = v + BitVec.ofNat 8 n ∧
      (∀ m < n, s.isOwnSeq (v + BitVec.ofNat 8 m) = true) ∧ (n < tries → s.isOwnSeq (v + BitVec.ofNat 8 n) = false) := by
  induction tries generalizing v with
  | zero => exact ⟨0, le_rfl, by simp [nextFreeSeq], by simp, by simp⟩
  | succ k ih =>
    by_cases own : s.isOwnSeq v = true
    · obtain ⟨n, few, found, before, free⟩ := ih (v + 1)
      have shift : ∀ m : Nat, v + 1 + BitVec.ofNat 8 m = v + BitVec.ofNat 8 (m + 1) := fun m => by
        rw [Nat.add_comm m 1, BitVec.ofNat_add, BitVec.add_assoc]
        rfl
      refine ⟨n + 1, Nat.succ_le_succ few, ?_, fun m below => ?_, fun below => ?_⟩
      · rw [nextFreeSeq, if_pos own, found, shift]
      · cases m with
        | zero => simpa using own
        | succ m => rw [← shift]; exact before m (Nat.lt_of_succ_lt_succ below)
      · rw [← shift]; exact free (Nat.lt_of_succ_lt_succ below)
    · refine ⟨0, Nat.zero_le _, by rw [nextFreeSeq, if_neg own]; simp, by simp, fun _ => by simpa using own⟩

/-- R13: 16 sequences that all stand in the own-frame set are 16 of its entries. -/
theorem ownSet_full {s : State} (v : Byte) (own : ∀ m < 16, s.isOwnSeq (v + BitVec.ofNat 8 m) = true) :
    16 ≤ s.port.ownSet.length := by
  have sub : ((List.range 16).map fun m => v + BitVec.ofNat 8 m) ⊆ s.port.ownSet.map fun e => e.seq := by
    intro seq mem
    obtain ⟨m, low, rfl⟩ := List.mem_map.mp mem
    obtain ⟨e, stands, same⟩ := (s.isOwnSeq_iff _).mp (own m (List.mem_range.mp low))
    exact List.mem_map.mpr ⟨e, stands, same⟩
  have distinct : ((List.range 16).map fun m => v + BitVec.ofNat 8 m).Nodup := by
    refine List.Nodup.map_on (fun a low b low' same => ?_) List.nodup_range
    rw [List.mem_range] at low low'
    have := congrArg BitVec.toNat (add_left_cancel same)
    simp only [BitVec.toNat_ofNat] at this
    omega
  simpa using (distinct.subperm sub).length_le

/-- R13: the first free value from the counter on, and all before it in the set. -/
theorem nextFreeSeq_free {s : State} (room : s.port.ownSet.length < 16) (v : Byte) :
    ∃ n < 16, nextFreeSeq s ownCapacity v = v + BitVec.ofNat 8 n ∧ s.isOwnSeq (v + BitVec.ofNat 8 n) = false ∧
      ∀ m < n, s.isOwnSeq (v + BitVec.ofNat 8 m) = true := by
  obtain ⟨n, few, found, before, free⟩ := nextFreeSeq_spec s ownCapacity v
  have low : n < ownCapacity := by
    refine Nat.lt_of_le_of_ne few fun same => ?_
    have := ownSet_full v (same ▸ before)
    omega
  exact ⟨n, low, found, free low, before⟩

/-- R13: a frame that may start departs with a sequence that is not in the own-frame set. -/
theorem departSeq_free {f : Inserted} (starts : mayStart f s = true) : s.isOwnSeq (departSeq f s) = false := by
  simp only [mayStart, Bool.and_eq_true, decide_eq_true_eq] at starts
  obtain ⟨room, echo⟩ := starts
  unfold departSeq
  cases kept : f.echo with
  | some seq => simpa [kept] using echo
  | none =>
    obtain ⟨n, -, found, free, -⟩ := nextFreeSeq_free room s.port.seqCounter
    simp only [found, free]

theorem move_portLaw (m : Move parts s t) (h : portLaw s) : portLaw t := by
  have frame := m.changes
  obtain ⟨transit, own, distinct, misses⟩ := h
  have h : portLaw s := ⟨transit, own, distinct, misses⟩
  cases m with
  | input m => cases m <;> exact portLaw_frame frame (by decide) h
  | reset => simp [portLaw, State.atReset, Port.initial]
  | count | clearStats | marks | place | placePoll => exact h
  | joins _ x room => exact ⟨by simpa using room, own, distinct, misses⟩
  | ownFrames _ kept _ sub few =>
    exact ⟨transit, by simpa using sub.length_le.trans (by simpa using own), distinct.sublist sub, few⟩
  | transitDeparts =>
    rcases departTransit_cases s with same | ⟨x, rest, -, -, e⟩
    · rwa [same]
    · rw [e]; exact h
  | transitLeaves =>
    rcases leaveTransit_cases s with same | ⟨bytes, -, e⟩
    · rwa [same]
    · rw [e]
      exact ⟨by simp [Port.transitGone]; omega, own, distinct, misses⟩
  | insertedDeparts =>
    rcases departInserted_cases s with same | ⟨f, rest, -, -, -, starts, e⟩
    · rwa [same]
    · rw [e]
      have free := departSeq_free starts
      simp only [mayStart, Bool.and_eq_true, decide_eq_true_eq] at starts
      obtain ⟨room, -⟩ := starts
      refine ⟨transit, by simpa [State.startsInserted, ownCapacity] using room, ?_, misses⟩
      have absent : ∀ e ∈ s.port.ownSet, e.seq ≠ departSeq f s := by simpa [State.isOwnSeq] using free
      simpa [State.startsInserted, List.nodup_append, distinct] using absent
  | insertedLeaves =>
    rcases leaveInserted_cases s with same | ⟨bytes, seq, f, rest, -, -, port, -⟩
    · rwa [same]
    · have seqs : ((leaveInserted s).port.ownSet.map fun e => e.seq) = s.port.ownSet.map fun e => e.seq := by
        rw [port]
        simp only [State.insertedGone, List.map_map]
        exact List.map_congr_left fun e _ => by dsimp only [Function.comp_apply]; split <;> rfl
      refine ⟨by rwa [port], by rw [port]; simpa [State.insertedGone] using own, by rwa [seqs], by rwa [port]⟩
  | _ => exact portLaw_frame frame (by decide) h

/-! ## R12, R148: the insertion queue -/

theorem quotaLaw_congr (insertion : t.port.insertion = s.port.insertion)
    (placement : t.sweep.placement.length = s.sweep.placement.length) (h : quotaLaw s) : quotaLaw t := by
  unfold quotaLaw
  rw [insertion, placement]
  exact h

theorem quotaLaw_frame (c : Changes parts s t) (port : .port ∉ parts) (sweep : .sweep ∉ parts) (h : quotaLaw s) :
    quotaLaw t :=
  quotaLaw_congr (by rw [c.port.resolve_left port]) (by rw [c.sweep.resolve_left sweep]) h

/-- R12: one more frame of a quota with a free slot exceeds no quota. -/
theorem place_quotas {f : Inserted} (room : s.freeSlot f.quota = true)
    (h : ∀ q : Quota, s.port.insertion.countP (fun f => f.quota == q) ≤ q.slots) (q : Quota) :
    (s.port.insertion ++ [f]).countP (fun f => f.quota == q) ≤ q.slots := by
  simp only [State.freeSlot, decide_eq_true_eq] at room
  rw [List.countP_append, List.countP_singleton]
  split
  · rename_i same
    rw [beq_iff_eq] at same
    subst same
    exact room
  · exact h q

theorem settleSweep_placement (s : State) : (settleSweep s).sweep.placement = s.sweep.placement := by
  simp [settleSweep]

theorem startSweepOn_placement (c : SweepCopy) (s : State) :
    (startSweepOn c s).sweep.placement = s.sweep.placement := by
  unfold startSweepOn
  dsimp only
  split
  · rw [settleSweep_placement]; rfl
  · rfl

theorem finishSweep_placement (s : State) : (finishSweep s).sweep.placement = s.sweep.placement := by
  unfold finishSweep
  split
  · dsimp only
    split
    · rw [settleSweep_placement]
      simp [beginSweep]
    · simp [beginSweep]
  · exact settleSweep_placement s

theorem checkSweepEnd_placement (s : State) : (checkSweepEnd s).sweep.placement = s.sweep.placement := by
  unfold checkSweepEnd
  split
  · split
    · exact finishSweep_placement s
    · split <;> rfl
  · rfl

theorem stopSweepEffect_placement (s : State) : (stopSweepEffect s).sweep.placement = s.sweep.placement := by
  unfold stopSweepEffect
  split
  · rfl
  · split
    · rfl
    · rw [checkSweepEnd_placement]; rfl
  · rfl

/-- R148: a poll that has left takes the oldest placement item with it. -/
theorem pollLeft_placement (seq : Byte) (s : State) : (pollLeft seq s).sweep.placement = s.sweep.placement.drop 1 := by
  unfold pollLeft
  split
  · rename_i empty
    simp [empty]
  · rename_i item rest placed
    cases item <;> simp [placed]

theorem move_quotaLaw (m : Move parts s t) (h : quotaLaw s) : quotaLaw t := by
  have frame := m.changes
  obtain ⟨quotas, polls⟩ := h
  have h : quotaLaw s := ⟨quotas, polls⟩
  cases m with
  | input m => cases m <;> exact quotaLaw_frame frame (by decide) (by decide) h
  | reset => simp [quotaLaw, State.atReset, Port.initial, Sweep.initial]
  | count | clearStats | marks | joins | ownFrames | issue => exact h
  | transitDeparts =>
    rcases departTransit_cases s with same | ⟨x, rest, -, -, e⟩
    · rwa [same]
    · rw [e]
      exact quotaLaw_congr (s := s) rfl (congrArg _ (congrArg _ ((departing_changes s x).sweep.resolve_left (by decide)))) h
  | transitLeaves =>
    rcases leaveTransit_cases s with same | ⟨bytes, -, e⟩
    · rwa [same]
    · rw [e]
      exact quotaLaw_congr (s := s) rfl (congrArg _ (congrArg _ ((settleLine_changes s).sweep.resolve_left (by decide)))) h
  | insertedDeparts =>
    rcases departInserted_cases s with same | ⟨f, rest, -, -, -, -, e⟩
    · rwa [same]
    · rw [e]; exact h
  | insertedLeaves =>
    rcases leaveInserted_cases s with same | ⟨bytes, seq, f, rest, -, oldest, port, sweep⟩
    · rwa [same]
    · have left : (leaveInserted s).port.insertion = rest := by rw [port]; rfl
      rw [oldest] at quotas polls
      refine ⟨fun q => ?_, ?_⟩
      · rw [left]
        exact (List.sublist_cons_self f rest).countP_le.trans (quotas q)
      · rw [left, sweep]
        by_cases poll : f.quota = .poll
        · rw [if_pos poll, pollLeft_placement, List.length_drop]
          change s.sweep.placement.length - 1 = _
          rw [polls]
          simp [poll]
        · simpa [poll] using polls
  | place _ f kind room => exact ⟨place_quotas room quotas, by simpa [List.countP_append, kind] using polls⟩
  | placePoll _ a station room =>
    exact ⟨place_quotas (f := ⟨.poll, station, kindPoll, [], none, false⟩) room quotas, by simp [placePoll, State.place, polls]⟩
  | polls _ f kept => exact quotaLaw_congr (s := s) rfl kept.placement h
  | sweepStarts _ c =>
    exact quotaLaw_congr (by rw [frame.port.resolve_left (by decide)]) (by rw [startSweepOn_placement]) h
  | sweepChecked =>
    exact quotaLaw_congr (by rw [frame.port.resolve_left (by decide)]) (by rw [checkSweepEnd_placement]) h
  | sweepStops =>
    exact quotaLaw_congr (by rw [frame.port.resolve_left (by decide)]) (by rw [stopSweepEffect_placement]) h
  | sweepRestarts => exact quotaLaw_congr (s := s) rfl (by simp [restartSweepEffect]) h
  | _ => exact quotaLaw_frame frame (by decide) (by decide) h

end Sys2Proof.Machine
end

section
/-! The laws of the other queues and of the outstanding polls: no move breaks one. -/

namespace Sys2Proof.Machine

variable {parts : List Part} {s t : State}

/-! ## R55, R137, R171, R173, R178: the capacities -/

/-- The capacities hold once those of the parts that a move changes do. -/
theorem capacityLaw_parts (c : Changes parts s t) (h : capacityLaw s)
    (mgmt : .mgmt ∈ parts → t.mgmt.queue.length ≤ 8 ∧ t.mgmt.cursors.length ≤ 4 := by
      exact fun touched => absurd touched (by decide))
    (log : .holder ∈ parts → t.holder.log.length ≤ 8 := by exact fun touched => absurd touched (by decide))
    (settlements : .tracker ∈ parts → t.tracker.queue.length ≤ 16 := by
      exact fun touched => absurd touched (by decide))
    (bills : .billing ∈ parts → t.billing.queue.length ≤ 192 := by exact fun touched => absurd touched (by decide)) :
    capacityLaw t := by
  obtain ⟨requests, cursors, blows, settled, billed⟩ := h
  have served : t.mgmt.queue.length ≤ 8 ∧ t.mgmt.cursors.length ≤ 4 := c.mgmt.elim mgmt fun same => by
    have queue : t.mgmt.queue = s.mgmt.queue := congrArg (fun x => x.queue) same
    have slots : t.mgmt.cursors = s.mgmt.cursors := congrArg (fun x => x.cursors) same
    exact ⟨by rwa [queue], by rwa [slots]⟩
  exact ⟨served.1, served.2, c.holder.elim log fun same => by rwa [same],
    c.tracker.elim settlements fun same => by rwa [same], c.billing.elim bills fun same => by rwa [same]⟩

/-- R178: at most four stations hold a slot. -/
theorem setCursor_length (c : Cursor) {cursors : List Cursor} (few : cursors.length ≤ 4) :
    (setCursor c cursors).length ≤ 4 := by
  have others : (cursors.filter fun x => x.station != c.station).length ≤ 4 := (List.length_filter_le ..).trans few
  unfold setCursor
  dsimp only
  split <;> simp <;> omega

/-- R55: the end of a blow leaves the log within its eight entries. -/
theorem endBlow_log (duration : Nat) (ending : BlowEnd) (few : s.holder.log.length ≤ 8) :
    (endBlow duration ending s).holder.log.length ≤ 8 :=
  pushCapped_length _ (by decide) few

theorem blowStatus_log (v : Int) (few : s.holder.log.length ≤ 8) : (blowStatus v s).holder.log.length ≤ 8 := by
  unfold blowStatus
  dsimp only
  split
  · split
    · split <;> exact few
    · exact few
    · exact few
  · split
    · exact few
    · exact endBlow_log _ _ few
    · exact few

theorem pollLeft_mgmt (seq : Byte) (s : State) : (pollLeft seq s).mgmt = s.mgmt := by
  unfold pollLeft
  split
  · rfl
  · dsimp only
    split <;> rfl

/-- R14: of the Management Interface an own frame that has left changes the reset stage alone. -/
theorem leaveInserted_mgmt (s : State) : ∃ stage, (leaveInserted s).mgmt = { s.mgmt with resetStage := stage } := by
  by_cases sends : ∃ bytes seq f rest, s.port.ringOut = .inserted bytes seq ∧ s.port.insertion = f :: rest
  · obtain ⟨bytes, seq, f, rest, sent, oldest⟩ := sends
    rw [leaveInserted_sent sent oldest]
    have gone : (s.insertedGone bytes seq rest).mgmt = s.mgmt := rfl
    have left : (if f.quota = .poll then pollLeft seq (s.insertedGone bytes seq rest)
        else s.insertedGone bytes seq rest).mgmt = s.mgmt := by
      split
      · rw [pollLeft_mgmt, gone]
      · exact gone
    dsimp only
    split
    · exact ⟨.replyLeft, by rw [left]⟩
    · exact ⟨s.mgmt.resetStage, left⟩
  · exact ⟨s.mgmt.resetStage, by
      rw [leaveInserted_idle fun bytes seq f rest sent oldest => sends ⟨bytes, seq, f, rest, sent, oldest⟩]⟩

theorem appendBilling_billing (b : BillingRecord) :
    (appendBilling s b).billing = { s.billing with queue := s.billing.queue ++ [b] } := by
  unfold appendBilling
  dsimp only
  split
  · exact State.notice_billing _ _ _
  · rfl

theorem foldl_appendBilling_billing (records : List BillingRecord) (s : State) :
    (records.foldl appendBilling s).billing = { s.billing with queue := s.billing.queue ++ records } := by
  induction records generalizing s with
  | nil => simp
  | cons b records ih => rw [List.foldl_cons, ih, appendBilling_billing]; simp

/-- R169: the enabled accounts are as many as their count says. -/
theorem enabledAccounts_length (s : State) : (enabledAccounts s).length = enabledCount s := by
  have settings : s.tables.t12 = (List.range s.tables.t12.length).map s.accountSetting := by
    refine List.ext_getElem (by simp) fun i low _ => ?_
    simp [State.accountSetting, List.getElem?_eq_getElem low]
  conv_rhs => rw [enabledCount, settings]
  rw [enabledAccounts, ← List.countP_eq_length_filter, List.countP_map]
  rfl

theorem takeClose_queue (s : State) : (takeClose s).billing.queue = s.billing.queue ++
    (enabledAccounts s).map (billingRecord s ((s.billing.closeCounter + 1) % 65536)) := by
  simp only [takeClose, foldl_appendBilling_billing]

theorem move_capacityLaw (m : Move parts s t) (h : capacityLaw s) : capacityLaw t := by
  have frame := m.changes
  obtain ⟨requests, cursors, blows, settled, billed⟩ := id h
  cases m with
  | input m =>
    cases m with
    | level => exact h
    | cause _ c =>
      obtain ⟨f, tracker⟩ := raiseCause_tracker s c
      exact capacityLaw_parts frame h (settlements := fun _ => by rwa [tracker])
    | breaker _ v =>
      obtain ⟨f, tracker⟩ := breakerStatus_tracker s v
      exact capacityLaw_parts frame h (settlements := fun _ => by rwa [tracker])
    | blow _ v => exact capacityLaw_parts frame h (log := fun _ => blowStatus_log v blows)
    | _ => exact capacityLaw_parts frame h
  | reset =>
    simp [capacityLaw, State.atReset, Mgmt.initial, Holder.initial, Tracker.initial, Billing.initial]
  | insertedLeaves =>
    obtain ⟨stage, mgmt⟩ := leaveInserted_mgmt s
    exact capacityLaw_parts frame h (mgmt := fun _ => by rw [mgmt]; exact ⟨requests, cursors⟩)
  | requests _ l fits => exact ⟨fits.elim (·.trans requests) id, cursors, blows, settled, billed⟩
  | cursor _ c => exact ⟨requests, setCursor_length c cursors, blows, settled, billed⟩
  | mgmtMarks | tailEnds => exact h
  | blowLimit => exact capacityLaw_parts frame h (log := fun _ => endBlow_log _ _ blows)
  | accountBoundary _ n => exact capacityLaw_parts frame h (settlements := fun _ => accountBoundary_queue s n settled)
  | openPeriod => exact h
  | start => exact h
  | stop => exact capacityLaw_parts frame h (settlements := fun _ => closeBlock_queue _ settled)
  | clockStep => exact capacityLaw_parts frame h (settlements := fun _ => trackerClockStep_queue s settled)
  | settlements _ l loss fewer => exact ⟨requests, cursors, blows, fewer.trans settled, billed⟩
  | billing _ b _ queue => exact ⟨requests, cursors, blows, settled, queue.trans billed⟩
  | closes _ room =>
    exact capacityLaw_parts frame h (bills := fun _ => by
      rw [takeClose_queue, List.length_append, List.length_map, enabledAccounts_length]
      exact room)
  | _ => exact capacityLaw_parts frame h

/-! ## R143, R147: the outstanding polls -/

theorem sweepLaw_frame (c : Changes parts s t) (sweep : .sweep ∉ parts) (h : sweepLaw s) : sweepLaw t := by
  unfold sweepLaw
  rw [c.sweep.resolve_left sweep]
  exact h

/-- An engine with no entry outstanding breaks no bound on them. -/
theorem sweepLaw_of_none (none : s.sweep.entries = []) : sweepLaw s := by
  simp [sweepLaw, none]

/-- Fewer entries, in a state and behind a cursor that allow them, keep the law. -/
theorem sweepLaw_of_sublist (fewer : (t.sweep.entries.map fun e => e.account).Sublist (s.sweep.entries.map fun e => e.account))
    (resting : t.sweep.state = .idle ∨ t.sweep.state = .waiting → s.sweep.state = .idle ∨ s.sweep.state = .waiting)
    (sweeping : t.sweep.state = .sweeping → s.sweep.state = .sweeping ∧ s.sweep.cursor ≤ t.sweep.cursor)
    (h : sweepLaw s) : sweepLaw t := by
  obtain ⟨few, distinct, rest, before⟩ := h
  have shorter : t.sweep.entries.length ≤ s.sweep.entries.length := by simpa using fewer.length_le
  refine ⟨shorter.trans few, distinct.sublist fewer, fun r => ?_, fun r e outstanding => ?_⟩
  · have gone := rest (resting r)
    rw [gone] at shorter
    exact List.eq_nil_of_length_eq_zero (Nat.le_zero.mp shorter)
  · obtain ⟨old, advanced⟩ := sweeping r
    obtain ⟨x, had, same⟩ := List.mem_map.mp (fewer.subset (List.mem_map.mpr ⟨e, outstanding, rfl⟩))
    have low := before old x had
    rw [same] at low
    exact low.trans_le advanced

theorem settleSweep_entries (s : State) : (settleSweep s).sweep.entries = s.sweep.entries := by simp [settleSweep]

theorem startSweepOn_entries (c : SweepCopy) (s : State) : (startSweepOn c s).sweep.entries = s.sweep.entries := by
  unfold startSweepOn
  dsimp only
  split
  · rw [settleSweep_entries]; rfl
  · rfl

theorem finishSweep_entries (s : State) : (finishSweep s).sweep.entries = s.sweep.entries := by
  unfold finishSweep
  split
  · dsimp only
    split
    · rw [settleSweep_entries]; simp [beginSweep]
    · simp [beginSweep]
  · exact settleSweep_entries s

/-- R153, R154: a sweep ends, or starts again, only while no entry is outstanding. -/
theorem checkSweepEnd_sweepLaw (h : sweepLaw s) : sweepLaw (checkSweepEnd s) := by
  unfold checkSweepEnd
  split
  · rename_i none
    split
    · exact sweepLaw_of_none (by rw [finishSweep_entries, none])
    · split
      · exact sweepLaw_of_none none
      · exact h
  · exact h

theorem stopSweepEffect_sweepLaw (h : sweepLaw s) : sweepLaw (stopSweepEffect s) := by
  unfold stopSweepEffect
  split
  · exact h
  · rename_i sweeping
    split
    · exact sweepLaw_of_none ‹_›
    · exact checkSweepEnd_sweepLaw (sweepLaw_of_sublist (s := s) (List.filter_sublist.map _) (by simp [State.onSweep])
        (by simp [State.onSweep]) h)
  · rename_i active stopping
    have resting : s.sweep.state = .idle ∨ s.sweep.state = .waiting := by
      cases state : s.sweep.state <;> simp_all
    exact sweepLaw_of_none (h.2.2.1 resting)

/-- R148: a poll that has left changes the phase of its entry. -/
theorem pollLeft_sweep (seq : Byte) (s : State) : (pollLeft seq s).sweep.state = s.sweep.state ∧
    (pollLeft seq s).sweep.cursor = s.sweep.cursor ∧
    ((pollLeft seq s).sweep.entries.map fun e => e.account) = s.sweep.entries.map fun e => e.account := by
  unfold pollLeft
  split
  · simp
  · dsimp only
    split
    · simp
    · refine ⟨rfl, rfl, mapped_accounts _ fun e => ?_⟩
      split <;> rfl

theorem move_sweepLaw (m : Move parts s t) (h : sweepLaw s) : sweepLaw t := by
  have frame := m.changes
  cases m with
  | input m => cases m <;> exact sweepLaw_frame frame (by decide) h
  | reset => exact sweepLaw_of_none rfl
  | insertedLeaves =>
    rcases leaveInserted_cases s with same | ⟨bytes, seq, f, rest, -, -, -, sweep⟩
    · rwa [same]
    · obtain ⟨state, cursor, accounts⟩ := pollLeft_sweep seq (s.insertedGone bytes seq rest)
      by_cases poll : f.quota = .poll
      · rw [if_pos poll] at sweep
        refine sweepLaw_of_sublist (s := s) ?_ ?_ ?_ h
        · rw [sweep, accounts]; exact .refl _
        · rw [sweep, state]; exact id
        · rw [sweep, state, cursor]; exact fun sweeping => ⟨sweeping, le_rfl⟩
      · rw [if_neg poll] at sweep
        unfold sweepLaw
        rw [sweep]
        exact h
  | placePoll => exact h
  | polls _ f kept =>
    refine sweepLaw_of_sublist (s := s) kept.accounts ?_ ?_ h
    · change (f s.sweep).state = _ ∨ (f s.sweep).state = _ → _
      rw [kept.state]; exact id
    · change (f s.sweep).state = _ → _
      rw [kept.state]; exact fun sweeping => ⟨sweeping, kept.cursor⟩
  | issue _ e sweeping next room =>
    obtain ⟨few, distinct, rest, before⟩ := h
    refine ⟨by simpa [State.onSweep] using room, ?_, by simp [State.onSweep, sweeping], fun _ x outstanding => ?_⟩
    · have fresh : ∀ x ∈ s.sweep.entries, x.account ≠ e.account := fun x outstanding => by
        have := before sweeping x outstanding
        omega
      simpa [State.onSweep, List.nodup_append, distinct] using fresh
    · rcases List.mem_append.mp outstanding with old | new
      · exact (before sweeping x old).trans (Nat.lt_succ_self _)
      · rw [List.mem_singleton.mp new, next]
        exact Nat.lt_succ_self _
  | sweepStarts _ c resting => exact sweepLaw_of_none (by rw [startSweepOn_entries, h.2.2.1 resting])
  | sweepChecked => exact checkSweepEnd_sweepLaw h
  | sweepStops => exact stopSweepEffect_sweepLaw h
  | sweepRestarts => exact sweepLaw_of_none rfl
  | _ => exact sweepLaw_frame frame (by decide) h

end Sys2Proof.Machine
end

section
namespace Sys2Proof.Proofs
open Sys2Proof.Machine

/-- Settles O56: the moves that can fill a queue, a quota or a set check its room first, or drop its oldest element
(`move_portLaw`, `move_quotaLaw`, `move_capacityLaw`). -/
theorem capacitiesKept : Obligations.CapacitiesKept := by
  intro s t stepped
  exact ⟨step_keeps (fun _ _ h => h) move_portLaw stepped, step_keeps (fun _ _ h => h) move_quotaLaw stepped,
    step_keeps (fun _ _ h => h) move_capacityLaw stepped⟩

/-- Settles O59: an entry is made for the account at the cursor, which no entry before the cursor names, and only with
fewer than four outstanding; a sweep starts only with none (`move_sweepLaw`). -/
theorem sweepLawKept : Obligations.SweepLawKept := by
  intro s t stepped
  exact step_keeps (fun _ _ h => h) move_sweepLaw stepped

end Sys2Proof.Proofs
end

section
/-! Stage 4, the boiler fill: what one gift, one pass and the whole fill do to the remainder and the running grants. -/

namespace Sys2Proof.Machine

/-! ## Lists of numbers -/

theorem getD_set_self {α : Type} {l : List α} {i : Nat} (low : i < l.length) (a d : α) : (l.set i a).getD i d = a := by
  simp [low]

theorem getD_set_ne {α : Type} (l : List α) {i j : Nat} (apart : i ≠ j) (a d : α) :
    (l.set i a).getD j d = l.getD j d := by
  simp [apart]

theorem sum_set_add {l : List Nat} {i : Nat} (low : i < l.length) (d : Nat) :
    (l.set i (l.getD i 0 + d)).sum = l.sum + d := by
  induction l generalizing i with
  | nil => simp at low
  | cons a l ih =>
    cases i with
    | zero => simp; omega
    | succ i =>
      have := ih (Nat.lt_of_succ_lt_succ low)
      simp only [List.getD_cons_succ, List.set_cons_succ, List.sum_cons] at this ⊢
      omega

theorem set_getD_self (l : List Nat) (i : Nat) : l.set i (l.getD i 0) = l := by
  by_cases low : i < l.length
  · simp [List.getElem?_eq_getElem low]
  · exact List.set_eq_of_length_le (Nat.le_of_not_lt low)

/-- Parts rounded down never exceed the whole. -/
theorem sum_parts_le {α : Type} (l : List α) (w : α → Nat) (amount : Nat) :
    (l.map fun a => amount * w a / (l.map w).sum).sum ≤ amount := by
  have under : ∀ (l : List α) (whole : Nat),
      (l.map fun a => amount * w a / whole).sum ≤ amount * (l.map w).sum / whole := by
    intro l whole
    induction l with
    | nil => simp
    | cons a l ih =>
      simp only [List.map_cons, List.sum_cons, Nat.mul_add]
      exact (Nat.add_le_add_left ih _).trans (Nat.div_add_div_le_add_div ..)
  refine (under l _).trans ?_
  rw [Nat.mul_comm]
  exact Nat.div_le_of_le_mul (Nat.le_of_eq rfl)

/-! ## One gift -/

/-- The running grant of a boiler. -/
abbrev Fill.grantOf (f : Fill) (i : Nat) : Nat := f.grants.getD i 0

/-- So much of the remainder goes to a boiler. -/
def Fill.give (f : Fill) (i d : Nat) : Fill :=
  { f with rest := f.rest - d, grants := f.grants.set i (f.grantOf i + d) }

theorem giveTo_eq (amount : FillBoiler → Nat) (f : Fill) (b : FillBoiler) :
    giveTo amount f b = f.give b.number (min (amount b) (b.fmax - f.grantOf b.number)) := rfl

theorem visitResidue_eq (f : Fill) (b : FillBoiler) : visitResidue f b =
    if 0 < f.grantOf b.number ∧ f.grantOf b.number < b.fmax then
      f.give b.number (min f.rest (b.fmax - f.grantOf b.number)) else f := rfl

section gifts

variable (f : Fill) (i d : Nat)

theorem Fill.give_length : (f.give i d).grants.length = f.grants.length := by simp [Fill.give]

theorem Fill.give_self {f : Fill} {i : Nat} (low : i < f.grants.length) (d : Nat) :
    (f.give i d).grantOf i = f.grantOf i + d := getD_set_self low _ _

theorem Fill.give_other {i j : Nat} (apart : i ≠ j) : (f.give i d).grantOf j = f.grantOf j := getD_set_ne _ apart _ _

theorem Fill.give_nothing : f.give i 0 = f := by
  simp only [Fill.give, Nat.sub_zero, Nat.add_zero, Fill.grantOf, set_getD_self]

theorem Fill.give_total {f : Fill} {i d : Nat} (low : i < f.grants.length) (enough : d ≤ f.rest) :
    (f.give i d).rest + (f.give i d).grants.sum = f.rest + f.grants.sum := by
  simp only [Fill.give, Fill.grantOf, sum_set_add low]
  omega

theorem Fill.low_of_pos {f : Fill} {i : Nat} (granted : 0 < f.grantOf i) : i < f.grants.length := by
  by_contra high
  simp [Fill.grantOf, List.getElem?_eq_none (Nat.le_of_not_lt high)] at granted

end gifts

/-! ## What the passes after the minimum pass keep -/

/-- R74, R75: `g` comes from `f` by gifts to granted boilers of `own`, a part of the numbered list `boilers`. -/
structure Raises (boilers own : List FillBoiler) (f g : Fill) : Prop where
  banked : g.banked = f.banked
  length : g.grants.length = f.grants.length
  total : g.rest + g.grants.sum = f.rest + f.grants.sum
  mono : ∀ i, f.grantOf i ≤ g.grantOf i
  none : ∀ i, f.grantOf i = 0 → g.grantOf i = 0
  below : ∀ b ∈ boilers, f.grantOf b.number ≤ b.fmax → g.grantOf b.number ≤ b.fmax
  others : ∀ i, (∀ b ∈ own, b.number ≠ i) → g.grantOf i = f.grantOf i
  spent : f.rest = 0 → g = f

section raises

variable {boilers own : List FillBoiler} {f g h : Fill}

theorem Raises.refl (f : Fill) : Raises boilers own f f :=
  ⟨rfl, rfl, rfl, fun _ => le_rfl, fun _ => id, fun _ _ => id, fun _ _ => rfl, fun _ => rfl⟩

theorem Raises.trans (a : Raises boilers own f g) (b : Raises boilers own g h) : Raises boilers own f h where
  banked := b.banked.trans a.banked
  length := b.length.trans a.length
  total := b.total.trans a.total
  mono i := (a.mono i).trans (b.mono i)
  none i x := b.none i (a.none i x)
  below c m x := b.below c m (a.below c m x)
  others i x := (b.others i x).trans (a.others i x)
  spent x := by
    have same := a.spent x
    subst same
    exact b.spent x

theorem Raises.weaken {wider : List FillBoiler} (a : Raises boilers own f g) (sub : own ⊆ wider) :
    Raises boilers wider f g :=
  { a with others := fun i x => a.others i fun b m => x b (sub m) }

theorem Raises.foldl {step : Fill → FillBoiler → Fill} (l : List FillBoiler)
    (each : ∀ f, ∀ b ∈ l, Raises boilers own f (step f b)) (f : Fill) : Raises boilers own f (l.foldl step f) := by
  induction l generalizing f with
  | nil => exact .refl f
  | cons b l ih => exact (each f b (by simp)).trans (ih (fun f c m => each f c (by simp [m])) _)

/-- R74, R75: a gift of what is left, within the headroom, to a granted boiler. -/
theorem give_raises (numbered : (boilers.map fun b => b.number).Nodup) (sub : own ⊆ boilers) {b : FillBoiler} (mem : b ∈ own)
    (granted : 0 < f.grantOf b.number) {d : Nat} (enough : d ≤ f.rest) (fits : d ≤ b.fmax - f.grantOf b.number) :
    Raises boilers own f (f.give b.number d) := by
  have low := Fill.low_of_pos granted
  refine ⟨rfl, f.give_length _ _, Fill.give_total low enough, fun i => ?_, fun i zero => ?_, fun c m under => ?_,
    fun i apart => f.give_other _ (apart b mem), fun spent => ?_⟩
  · by_cases same : b.number = i
    · subst same; rw [Fill.give_self low]; omega
    · rw [f.give_other _ same]
  · have apart : b.number ≠ i := by rintro rfl; omega
    rw [f.give_other _ apart, zero]
  · by_cases same : b.number = c.number
    · cases List.inj_on_of_nodup_map numbered (sub mem) m same
      rw [Fill.give_self low]
      omega
    · rwa [f.give_other _ same]
  · have nothing : d = 0 := by omega
    rw [nothing, f.give_nothing]

/-! ### Rounds -/

/-- R74: one round gives each boiler of a numbered list its amount, or its headroom when that is smaller. -/
theorem foldl_giveTo (amount : FillBoiler → Nat) {cs : List FillBoiler} (numbered : (cs.map fun b => b.number).Nodup)
    (known : ∀ b ∈ cs, b.number < f.grants.length) :
    (cs.foldl (giveTo amount) f).banked = f.banked ∧
    (cs.foldl (giveTo amount) f).rest =
      f.rest - (cs.map fun b => min (amount b) (b.fmax - f.grantOf b.number)).sum ∧
    (∀ b ∈ cs, (cs.foldl (giveTo amount) f).grantOf b.number =
      f.grantOf b.number + min (amount b) (b.fmax - f.grantOf b.number)) ∧
    ∀ i, (∀ b ∈ cs, b.number ≠ i) → (cs.foldl (giveTo amount) f).grantOf i = f.grantOf i := by
  induction cs generalizing f with
  | nil => simp
  | cons b cs ih =>
    obtain ⟨fresh, rest⟩ := List.nodup_cons.mp numbered
    have apart : ∀ c ∈ cs, b.number ≠ c.number := fun c m same =>
      fresh (List.mem_map.mpr ⟨c, m, same.symm⟩)
    have low := known b (by simp)
    obtain ⟨banked, left, given, others⟩ := ih (f := giveTo amount f b) rest fun c m => by
      rw [giveTo_eq, f.give_length]
      exact known c (by simp [m])
    have kept : ∀ c ∈ cs, (giveTo amount f b).grantOf c.number = f.grantOf c.number := fun c m =>
      f.give_other _ (apart c m)
    refine ⟨banked, ?_, fun c m => ?_, fun i away => ?_⟩
    · rw [List.foldl_cons, left, List.map_congr_left fun c m => by rw [kept c m], List.map_cons, List.sum_cons,
        ← Nat.sub_sub]
      rfl
    · rw [List.foldl_cons]
      rcases List.mem_cons.mp m with rfl | m
      · rw [others _ fun x mx => (apart x mx).symm, giveTo_eq, Fill.give_self low]
      · rw [given c m, kept c m]
    · rw [List.foldl_cons, others i fun c m => away c (by simp [m]), giveTo_eq, f.give_other _ (away b (by simp))]

/-- R74: a round whose amounts the remainder covers only raises granted boilers. -/
theorem foldl_giveTo_raises (numbered : (boilers.map fun b => b.number).Nodup) (sub : own ⊆ boilers)
    (amount : FillBoiler → Nat) {cs : List FillBoiler} (mem : cs ⊆ own) (granted : ∀ b ∈ cs, 0 < f.grantOf b.number)
    (enough : (cs.map amount).sum ≤ f.rest) : Raises boilers own f (cs.foldl (giveTo amount) f) := by
  induction cs generalizing f with
  | nil => exact .refl f
  | cons b cs ih =>
    simp only [List.map_cons, List.sum_cons] at enough
    have first : Raises boilers own f (giveTo amount f b) :=
      give_raises numbered sub (mem (by simp)) (granted b (by simp))
        (d := min (amount b) (b.fmax - f.grantOf b.number)) (by omega) (Nat.min_le_right ..)
    refine first.trans (ih (fun c m => mem (by simp [m]))
      (fun c m => (granted c (by simp [m])).trans_le (first.mono _)) ?_)
    change _ ≤ f.rest - min (amount b) _
    omega

theorem fillRounds_idle {k : Nat} (idle : considered own f.grants = [] ∨ f.rest = 0) : fillRounds own k f = f := by
  cases k with
  | zero => rfl
  | succ k => exact if_pos idle

/-- R74: a round gives each considered boiler its share, and another follows when a headroom capped one. -/
theorem fillRounds_succ {k : Nat} (idle : ¬ (considered own f.grants = [] ∨ f.rest = 0)) :
    fillRounds own (k + 1) f =
      let cs := considered own f.grants
      let share := fillShare f.rest (cs.map fun b => b.weight).sum
      if cs.any (fun b => b.fmax - f.grantOf b.number < share b) then fillRounds own k (cs.foldl (giveTo share) f)
      else cs.foldl (giveTo share) f := if_neg idle

theorem mem_considered {b : FillBoiler} {grants : List Nat} :
    b ∈ considered own grants ↔ b ∈ own ∧ 0 < grants.getD b.number 0 ∧ grants.getD b.number 0 < b.fmax := by
  simp [considered]

theorem fillRounds_raises (numbered : (boilers.map fun b => b.number).Nodup) (sub : own ⊆ boilers) (k : Nat) (f : Fill) :
    Raises boilers own f (fillRounds own k f) := by
  induction k generalizing f with
  | zero => exact .refl f
  | succ k ih =>
    by_cases idle : considered own f.grants = [] ∨ f.rest = 0
    · rw [fillRounds_idle idle]; exact .refl f
    · have round : Raises boilers own f _ :=
        foldl_giveTo_raises numbered sub (fillShare f.rest _) (cs := considered own f.grants)
          (fun b m => (mem_considered.mp m).1) (fun b m => (mem_considered.mp m).2.1)
          (sum_parts_le _ (fun b : FillBoiler => b.weight) f.rest)
      rw [fillRounds_succ idle]
      dsimp only
      split
      · exact round.trans (ih _)
      · exact round

/-! ### The residue pass and a class -/

theorem visitResidue_raises (numbered : (boilers.map fun b => b.number).Nodup) (sub : own ⊆ boilers) {b : FillBoiler}
    (mem : b ∈ own) (f : Fill) : Raises boilers own f (visitResidue f b) := by
  rw [visitResidue_eq]
  split
  · rename_i open_
    exact give_raises numbered sub mem open_.1 (Nat.min_le_left ..) (Nat.min_le_right ..)
  · exact .refl f

/-- R75: nothing is left for a boiler, or it takes no more. -/
def Settled (f : Fill) (b : FillBoiler) : Prop :=
  f.rest = 0 ∨ f.grantOf b.number = 0 ∨ b.fmax ≤ f.grantOf b.number

theorem Settled.raises {b : FillBoiler} (a : Settled f b) (r : Raises boilers own f g) : Settled g b := by
  rcases a with spent | none | full
  · exact .inl (by rw [r.spent spent, spent])
  · exact .inr (.inl (r.none _ none))
  · exact .inr (.inr (full.trans (r.mono _)))

theorem visitResidue_settles (f : Fill) (b : FillBoiler) : Settled (visitResidue f b) b := by
  rw [visitResidue_eq]
  split
  · rename_i open_
    obtain ⟨granted, under⟩ := open_
    by_cases short : f.rest ≤ b.fmax - f.grantOf b.number
    · exact .inl (by simp only [Fill.give]; omega)
    · exact .inr (.inr (by rw [Fill.give_self (Fill.low_of_pos granted)]; omega))
  · unfold Settled
    omega

theorem ofClass_subset (c : Nat) : ofClass boilers c ⊆ boilers := fun _ m => (List.mem_filter.mp m).1

theorem fillClass_raises (numbered : (boilers.map fun b => b.number).Nodup) (c : Nat) (f : Fill) :
    Raises boilers (ofClass boilers c) f (fillClass boilers f c) :=
  (fillRounds_raises numbered (ofClass_subset c) 6 f).trans
    (.foldl _ (fun f _ m => visitResidue_raises numbered (ofClass_subset c) m f) _)

/-- R74, R75: what a class leaves, none of its granted boilers has room for. -/
theorem fillClass_settles (numbered : (boilers.map fun b => b.number).Nodup) (c : Nat) (f : Fill) :
    ∀ b ∈ ofClass boilers c, Settled (fillClass boilers f c) b := by
  have pass : ∀ (l : List FillBoiler), l ⊆ boilers → ∀ f, ∀ b ∈ l, Settled (l.foldl visitResidue f) b := by
    intro l sub
    induction l with
    | nil => simp
    | cons a l ih =>
      intro f b m
      have later : ∀ g, Raises boilers l g (l.foldl visitResidue g) :=
        .foldl l fun g x mx => visitResidue_raises numbered (fun y my => sub (by simp [my])) mx g
      rcases List.mem_cons.mp m with rfl | m
      · exact (visitResidue_settles f b).raises (later _)
      · exact ih (fun y my => sub (by simp [my])) _ b m
  exact pass _ (ofClass_subset c) _

end raises

/-! ## The classes in order -/

section classes

variable {boilers : List FillBoiler} {f : Fill}

theorem foldl_fillClass_raises (numbered : (boilers.map fun b => b.number).Nodup) (classes : List Nat) (f : Fill) :
    Raises boilers (classes.flatMap (ofClass boilers)) f (classes.foldl (fillClass boilers) f) := by
  induction classes generalizing f with
  | nil => exact .refl f
  | cons c classes ih =>
    exact ((fillClass_raises numbered c f).weaken (by simp)).trans ((ih _).weaken (by simp))

theorem foldl_fillClass_settles (numbered : (boilers.map fun b => b.number).Nodup) {classes : List Nat} {b : FillBoiler}
    (mem : b ∈ boilers) (own : b.cls ∈ classes) (f : Fill) : Settled (classes.foldl (fillClass boilers) f) b := by
  induction classes generalizing f with
  | nil => simp at own
  | cons c classes ih =>
    rcases List.mem_cons.mp own with rfl | own
    · exact (fillClass_settles numbered _ f b (by simp [ofClass, mem])).raises (foldl_fillClass_raises numbered classes _)
    · exact ih own _

/-- R75, R76: a boiler of a class takes nothing once one of a class before it was left with room. -/
theorem foldl_fillClass_ordered (numbered : (boilers.map fun b => b.number).Nodup) {classes : List Nat}
    (ascending : classes.Pairwise (· < ·)) {b c : FillBoiler} (mb : b ∈ boilers) (mc : c ∈ boilers) (cb : b.cls ∈ classes)
    (before : b.cls < c.cls) (f : Fill)
    (granted : 0 < (classes.foldl (fillClass boilers) f).grantOf b.number)
    (room : (classes.foldl (fillClass boilers) f).grantOf b.number < b.fmax) :
    (classes.foldl (fillClass boilers) f).grantOf c.number = f.grantOf c.number := by
  have kept : ∀ k ≤ b.cls, ∀ f, (fillClass boilers f k).grantOf c.number = f.grantOf c.number := fun k early f =>
    (fillClass_raises numbered k f).others _ fun x mx same => by
      obtain ⟨m, cls⟩ := by simpa [ofClass] using mx
      cases List.inj_on_of_nodup_map numbered m mc same
      omega
  induction classes generalizing f with
  | nil => simp at cb
  | cons k classes ih =>
    obtain ⟨first, rest⟩ := List.pairwise_cons.mp ascending
    rw [List.foldl_cons] at granted room ⊢
    rcases List.mem_cons.mp cb with rfl | cb
    · have later := foldl_fillClass_raises numbered classes (fillClass boilers f b.cls)
      rcases fillClass_settles numbered b.cls f b (by simp [ofClass, mb]) with spent | none | full
      · rw [later.spent spent, kept _ le_rfl]
      · have := later.none _ none
        omega
      · have := later.mono b.number
        omega
    · rw [ih rest cb _ granted room, kept k (first _ cb).le]

end classes

end Sys2Proof.Machine
end

section
/-! Stage 4: the minimum pass, the eligible boilers and the fill as a whole. -/

namespace Sys2Proof.Machine

open scoped List

/-! ## The minimum pass -/

/-- R73: what the minimum pass over `l` makes of `f`. -/
structure Minimum (l : List FillBoiler) (f g : Fill) : Prop where
  length : g.grants.length = f.grants.length
  total : g.rest + g.grants.sum = f.rest + f.grants.sum
  others : ∀ i, (∀ b ∈ l, b.number ≠ i) → g.grantOf i = f.grantOf i
  each : ∀ b ∈ l, g.grantOf b.number = 0 ∨ g.grantOf b.number = b.fmin
  banked : g.banked = true ↔ f.banked = true ∨ ∃ b ∈ l, g.grantOf b.number = 0
  offered : ∀ pre b post, l = pre ++ b :: post →
    (0 < g.grantOf b.number ↔
      b.fmin + ((pre.filter fun c => 0 < g.grantOf c.number).map fun c => c.fmin).sum ≤ f.rest)

theorem visitMinimum_takes {f : Fill} {b : FillBoiler} (enough : b.fmin ≤ f.rest) (none : f.grantOf b.number = 0) :
    visitMinimum f b = f.give b.number b.fmin := by
  simp only [visitMinimum, enough, if_true, Fill.give, none, Nat.zero_add]

theorem visitMinimum_banks {f : Fill} {b : FillBoiler} (short : ¬ b.fmin ≤ f.rest) :
    visitMinimum f b = { f with banked := true } := by
  simp only [visitMinimum, short, if_false]

theorem foldl_visitMinimum {l : List FillBoiler} (numbered : (l.map fun b => b.number).Nodup) {f : Fill}
    (known : ∀ b ∈ l, b.number < f.grants.length) (fresh : ∀ b ∈ l, f.grantOf b.number = 0) (positive : ∀ b ∈ l, 1 ≤ b.fmin) :
    Minimum l f (l.foldl visitMinimum f) := by
  induction l generalizing f with
  | nil => exact ⟨rfl, rfl, fun _ _ => rfl, by simp, by simp, by simp⟩
  | cons b l ih =>
    obtain ⟨new, rest⟩ := List.nodup_cons.mp numbered
    have apart : ∀ c ∈ l, b.number ≠ c.number := fun c m same => new (List.mem_map.mpr ⟨c, m, same.symm⟩)
    have low := known b (by simp)
    have none := fresh b (by simp)
    have one := positive b (by simp)
    have knownLater : ∀ c ∈ l, c.number < f.grants.length := fun c m => known c (by simp [m])
    have freshLater : ∀ c ∈ l, f.grantOf c.number = 0 := fun c m => fresh c (by simp [m])
    have positiveLater : ∀ c ∈ l, 1 ≤ c.fmin := fun c m => positive c (by simp [m])
    rw [List.foldl_cons]
    by_cases enough : b.fmin ≤ f.rest
    · rw [visitMinimum_takes enough none]
      obtain ⟨length, total, others, each, banked, offered⟩ := ih (f := f.give b.number b.fmin) rest
        (fun c m => by rw [f.give_length]; exact knownLater c m)
        (fun c m => by rw [f.give_other _ (apart c m)]; exact freshLater c m) positiveLater
      generalize l.foldl visitMinimum (f.give b.number b.fmin) = g at length total others each banked offered ⊢
      have own := (others b.number fun c m same => apart c m same.symm).trans (Fill.give_self low _)
      rw [none, Nat.zero_add] at own
      refine ⟨length.trans (f.give_length _ _), total.trans (Fill.give_total low enough), fun i away => ?_, fun c m => ?_,
        ?_, fun pre c post split => ?_⟩
      · rw [others i fun c m => away c (by simp [m]), f.give_other _ (away b (by simp))]
      · rcases List.mem_cons.mp m with rfl | m
        · exact .inr own
        · exact each c m
      · rw [banked]
        have some : g.grantOf b.number ≠ 0 := by omega
        simp only [List.mem_cons, exists_eq_or_imp, some, false_or, Fill.give]
      · cases pre with
        | nil =>
          cases split
          simp only [own, List.filter_nil, List.map_nil, List.sum_nil]
          omega
        | cons a pre =>
          cases split
          rw [offered pre c post rfl, List.filter_cons, if_pos (decide_eq_true (by omega))]
          simp only [List.map_cons, List.sum_cons, Fill.give]
          omega
    · rw [visitMinimum_banks enough]
      obtain ⟨length, total, others, each, banked, offered⟩ := ih (f := { f with banked := true }) rest knownLater
        freshLater positiveLater
      generalize l.foldl visitMinimum { f with banked := true } = g at length total others each banked offered ⊢
      have own := (others b.number fun c m same => apart c m same.symm).trans none
      refine ⟨length, total, fun i away => others i fun c m => away c (by simp [m]), fun c m => ?_, ?_,
        fun pre c post split => ?_⟩
      · rcases List.mem_cons.mp m with rfl | m
        · exact .inl own
        · exact each c m
      · rw [banked]
        simp only [List.mem_cons, exists_eq_or_imp, own, true_or, or_true]
      · cases pre with
        | nil =>
          cases split
          simp only [own, List.filter_nil, List.map_nil, List.sum_nil]
          omega
        | cons a pre =>
          cases split
          rw [offered pre c post rfl, List.filter_cons, if_neg (by rw [own]; simp)]

/-! ## The fill order -/

/-- R72: by class, and within a class by number. -/
abbrev FillBoiler.before (b c : FillBoiler) : Prop := b.cls < c.cls ∨ (b.cls = c.cls ∧ b.number < c.number)

section order

variable {boilers : List FillBoiler}

theorem fillOrder_pairwise (ascending : boilers.Pairwise fun b c => b.number < c.number) :
    (fillOrder boilers).Pairwise FillBoiler.before := by
  refine List.pairwise_flatMap.mpr ⟨fun k _ => ?_, ?_⟩
  · have own : (ofClass boilers k).Pairwise fun b c => b.number < c.number := ascending.filter _
    refine own.imp_of_mem fun mb mc lower => .inr ⟨?_, lower⟩
    simp only [ofClass, List.mem_filter, beq_iff_eq] at mb mc
    rw [mb.2, mc.2]
  · have classes : [1, 2, 3, 4].Pairwise (· < ·) := by decide
    refine classes.imp fun lower b mb c mc => .inl ?_
    simp only [ofClass, List.mem_filter, beq_iff_eq] at mb mc
    rw [mb.2, mc.2]
    exact lower

theorem mem_fillOrder {b : FillBoiler} : b ∈ fillOrder boilers ↔ b ∈ boilers ∧ 1 ≤ b.cls ∧ b.cls ≤ 4 := by
  simp only [fillOrder, ofClass, List.mem_flatMap, List.mem_filter, List.mem_cons, List.not_mem_nil, or_false, beq_iff_eq]
  constructor
  · rintro ⟨k, known, m, rfl⟩
    exact ⟨m, by omega, by omega⟩
  · rintro ⟨m, low, high⟩
    exact ⟨b.cls, by omega, m, rfl⟩

theorem FillBoiler.before_irrefl (b : FillBoiler) : ¬ b.before b := by simp [FillBoiler.before]

/-- R72: what stands before a boiler in fill order is before it. -/
theorem mem_pre_fillOrder (ascending : boilers.Pairwise fun b c => b.number < c.number) {pre post : List FillBoiler}
    {b : FillBoiler} (split : fillOrder boilers = pre ++ b :: post) (c : FillBoiler) :
    c ∈ pre ↔ c ∈ fillOrder boilers ∧ c.before b := by
  have ordered := fillOrder_pairwise ascending
  rw [split] at ordered ⊢
  obtain ⟨-, tail, across⟩ := List.pairwise_append.mp ordered
  obtain ⟨after, -⟩ := List.pairwise_cons.mp tail
  constructor
  · exact fun m => ⟨by simp [m], across c m b (by simp)⟩
  · rintro ⟨m, early⟩
    rcases List.mem_append.mp m with m | m
    · exact m
    · rcases List.mem_cons.mp m with rfl | m
      · exact absurd early (FillBoiler.before_irrefl _)
      · have late := after c m
        unfold FillBoiler.before at early late
        omega

theorem numbers_nodup (ascending : boilers.Pairwise fun b c => b.number < c.number) :
    (boilers.map fun b => b.number).Nodup :=
  List.pairwise_map.mpr (ascending.imp fun lower => lower.ne)

theorem fillOrder_numbers_nodup (ascending : boilers.Pairwise fun b c => b.number < c.number) :
    ((fillOrder boilers).map fun b => b.number).Nodup := by
  have distinct : (fillOrder boilers).Nodup := (fillOrder_pairwise ascending).imp fun {b c} lower same => by
    subst same
    exact FillBoiler.before_irrefl b lower
  exact distinct.map_on fun b mb c mc same =>
    List.inj_on_of_nodup_map (numbers_nodup ascending) (mem_fillOrder.mp mb).1 (mem_fillOrder.mp mc).1 same

end order

/-! ## The eligible boilers of a snapshot -/

/-- R72: a boiler as the fill sees it. -/
def Snapshot.fillBoiler (n : Snapshot) (b : Nat) : FillBoiler :=
  let e := n.t4.getD b BoilerSetting.zero
  ⟨b, e.fillClass, e.fmin, e.fmax, e.weight, e.efficiency⟩

/-- R72: a boiler is bound, in service and set. -/
def Snapshot.eligible (n : Snapshot) (b : Nat) : Prop :=
  b < 6 ∧ n.isBound .boiler b = true ∧ n.value (9 + b) = 1 ∧ n.t4.getD b BoilerSetting.zero ≠ BoilerSetting.zero

section eligible

variable {n : Snapshot}

theorem mem_eligibleBoilers {x : FillBoiler} : x ∈ eligibleBoilers n ↔ ∃ b, n.eligible b ∧ n.fillBoiler b = x := by
  simp [eligibleBoilers, Snapshot.eligible, Snapshot.fillBoiler, and_assoc]

theorem eligibleBoilers_pairwise (n : Snapshot) : (eligibleBoilers n).Pairwise fun b c => b.number < c.number :=
  List.pairwise_map.mpr (List.pairwise_lt_range.filter _)

/-- R67: the ranges of an eligible boiler's setting. -/
theorem Snapshot.eligible_range {b : Nat} (ranges : ∀ e ∈ n.t4, e.inRange) (e : n.eligible b) :
    1 ≤ (n.fillBoiler b).cls ∧ (n.fillBoiler b).cls ≤ 4 ∧ 1 ≤ (n.fillBoiler b).fmin ∧
      (n.fillBoiler b).fmin ≤ (n.fillBoiler b).fmax ∧ (n.fillBoiler b).fmax ≤ 1000000 ∧
      50 ≤ (n.fillBoiler b).efficiency ∧ (n.fillBoiler b).efficiency ≤ 99 := by
  obtain ⟨-, -, -, set⟩ := e
  have mem : n.t4.getD b BoilerSetting.zero ∈ n.t4 := by
    by_cases low : b < n.t4.length
    · simp [List.getElem?_eq_getElem low]
    · exact absurd (by simp [List.getElem?_eq_none (Nat.le_of_not_lt low)]) set
  obtain ⟨cls, few, positive, above, top, -, -, half, full, -⟩ := (ranges _ mem).resolve_left set
  exact ⟨cls, few, positive, above, top, half, full⟩

theorem mem_fillOrder_eligible (ranges : ∀ e ∈ n.t4, e.inRange) {x : FillBoiler} :
    x ∈ fillOrder (eligibleBoilers n) ↔ x ∈ eligibleBoilers n := by
  rw [mem_fillOrder]
  refine ⟨And.left, fun m => ⟨m, ?_⟩⟩
  obtain ⟨b, e, rfl⟩ := mem_eligibleBoilers.mp m
  exact ⟨(Snapshot.eligible_range ranges e).1, (Snapshot.eligible_range ranges e).2.1⟩

theorem replicate_zero_getD (k i : Nat) : (List.replicate k 0).getD i 0 = 0 := by
  rw [List.getD_eq_getElem?_getD, List.getElem?_replicate]
  split <;> rfl

/-- R73: the fill once the minimum pass is done. -/
def Snapshot.minimumFill (n : Snapshot) (fuel : Nat) : Fill :=
  (fillOrder (eligibleBoilers n)).foldl visitMinimum { rest := fuel, grants := List.replicate 6 0, banked := false }

theorem fillBoilers_eq (n : Snapshot) (fuel : Nat) : fillBoilers (eligibleBoilers n) fuel =
    [1, 2, 3, 4].foldl (fillClass (eligibleBoilers n)) (n.minimumFill fuel) := rfl

theorem minimumFill_spec (ranges : ∀ e ∈ n.t4, e.inRange) (fuel : Nat) : Minimum (fillOrder (eligibleBoilers n))
    { rest := fuel, grants := List.replicate 6 0, banked := false } (n.minimumFill fuel) := by
  refine foldl_visitMinimum (fillOrder_numbers_nodup (eligibleBoilers_pairwise n)) (fun x m => ?_) (fun x m => ?_) fun x m => ?_
  all_goals obtain ⟨b, e, rfl⟩ := mem_eligibleBoilers.mp ((mem_fillOrder_eligible ranges).mp m)
  · exact e.1
  · exact replicate_zero_getD _ _
  · exact (Snapshot.eligible_range ranges e).2.2.1

/-- R73: a boiler that the pass does not visit keeps what it has. -/
theorem foldl_visitMinimum_others {l : List FillBoiler} {i : Nat} (away : ∀ b ∈ l, b.number ≠ i) (f : Fill) :
    (l.foldl visitMinimum f).grantOf i = f.grantOf i := by
  induction l generalizing f with
  | nil => rfl
  | cons b l ih =>
    rw [List.foldl_cons, ih fun c m => away c (by simp [m])]
    unfold visitMinimum
    split
    · exact getD_set_ne _ (away b (by simp)) _ _
    · rfl

theorem fillBoilers_raises (n : Snapshot) (fuel : Nat) : Raises (eligibleBoilers n)
    ([1, 2, 3, 4].flatMap (ofClass (eligibleBoilers n))) (n.minimumFill fuel) (fillBoilers (eligibleBoilers n) fuel) :=
  foldl_fillClass_raises (numbers_nodup (eligibleBoilers_pairwise n)) _ _

/-- R72: a boiler that is not eligible has no grant. -/
theorem fillBoilers_ineligible (n : Snapshot) (fuel b : Nat) (out : ¬ n.eligible b) :
    (fillBoilers (eligibleBoilers n) fuel).grantOf b = 0 := by
  refine (fillBoilers_raises n fuel).none b ((foldl_visitMinimum_others (fun x m same => ?_) _).trans
    (replicate_zero_getD _ _))
  obtain ⟨c, e, rfl⟩ := mem_eligibleBoilers.mp (mem_fillOrder.mp m).1
  exact out (same ▸ e)

end eligible

/-- R73 to R76: the fill of a snapshot, by its eligible boilers. -/
structure FillSpec (n : Snapshot) (fuel : Nat) (f : Fill) : Prop where
  length : f.grants.length = 6
  total : f.grants.sum + f.rest = fuel
  ineligible : ∀ b, ¬ n.eligible b → f.grantOf b = 0
  range : ∀ b, n.eligible b → f.grantOf b = 0 ∨ ((n.fillBoiler b).fmin ≤ f.grantOf b ∧ f.grantOf b ≤ (n.fillBoiler b).fmax)
  banked : f.banked = true ↔ ∃ b, n.eligible b ∧ f.grantOf b = 0
  excess : 0 < f.rest → ∀ b, n.eligible b → f.grantOf b = 0 ∨ f.grantOf b = (n.fillBoiler b).fmax
  ordered : ∀ b c, n.eligible b → n.eligible c → (n.fillBoiler b).cls < (n.fillBoiler c).cls → 0 < f.grantOf b →
    f.grantOf b < (n.fillBoiler b).fmax → f.grantOf c ≤ (n.fillBoiler c).fmin
  offered : ∀ b, n.eligible b → (0 < f.grantOf b ↔ (n.fillBoiler b).fmin +
    (((List.range 6).filter fun c => 0 < f.grantOf c ∧ (n.fillBoiler c).before (n.fillBoiler b)).map
      fun c => (n.fillBoiler c).fmin).sum ≤ fuel)

theorem fillBoilers_spec {n : Snapshot} (ranges : ∀ e ∈ n.t4, e.inRange) (fuel : Nat) :
    FillSpec n fuel (fillBoilers (eligibleBoilers n) fuel) := by
  have ascending := eligibleBoilers_pairwise n
  have numbered := numbers_nodup ascending
  have minimum := minimumFill_spec ranges fuel
  have raised := fillBoilers_raises n fuel
  have mem : ∀ {b}, n.eligible b → n.fillBoiler b ∈ eligibleBoilers n := fun e => mem_eligibleBoilers.mpr ⟨_, e, rfl⟩
  have inOrder : ∀ {b}, n.eligible b → n.fillBoiler b ∈ fillOrder (eligibleBoilers n) := fun e =>
    (mem_fillOrder_eligible ranges).mpr (mem e)
  have granted : ∀ i, 0 < (fillBoilers (eligibleBoilers n) fuel).grantOf i ↔ 0 < (n.minimumFill fuel).grantOf i := fun i => by
    have := raised.mono i
    have := raised.none i
    omega
  have settled : ∀ {b}, n.eligible b → Settled (fillBoilers (eligibleBoilers n) fuel) (n.fillBoiler b) := fun e => by
    have range := Snapshot.eligible_range ranges e
    exact foldl_fillClass_settles numbered (mem e) (by simp; omega) _
  have top : ∀ {b}, n.eligible b → (fillBoilers (eligibleBoilers n) fuel).grantOf b ≤ (n.fillBoiler b).fmax := fun {b} e => by
    have range := Snapshot.eligible_range ranges e
    have first : (n.minimumFill fuel).grantOf b = 0 ∨ (n.minimumFill fuel).grantOf b = (n.fillBoiler b).fmin :=
      minimum.each _ (inOrder e)
    exact raised.below _ (mem e) (by change (n.minimumFill fuel).grantOf b ≤ _; omega)
  have ineligible := fillBoilers_ineligible n fuel
  refine ⟨?_, ?_, ineligible, fun b e => ?_, ?_, fun left b e => ?_, fun b c eb ec lower some room => ?_, fun b e => ?_⟩
  · rw [raised.length, minimum.length]; rfl
  · have sum := raised.total.trans minimum.total
    simp only [List.sum_replicate, smul_zero, Nat.add_zero] at sum
    omega
  · have first : (n.minimumFill fuel).grantOf b = 0 ∨ (n.minimumFill fuel).grantOf b = (n.fillBoiler b).fmin :=
      minimum.each _ (inOrder e)
    have := granted b
    have := raised.mono b
    have := top e
    omega
  · rw [raised.banked, minimum.banked]
    constructor
    · rintro (h | ⟨x, m, none⟩)
      · simp at h
      · obtain ⟨b, e, rfl⟩ := mem_eligibleBoilers.mp ((mem_fillOrder_eligible ranges).mp m)
        exact ⟨b, e, raised.none _ none⟩
    · rintro ⟨b, e, none⟩
      refine .inr ⟨_, inOrder e, ?_⟩
      have := raised.mono b
      change (n.minimumFill fuel).grantOf b = 0
      omega
  · rcases settled e with spent | none | full
    · omega
    · exact .inl none
    · exact .inr (le_antisymm (top e) full)
  · have range := Snapshot.eligible_range ranges eb
    have same : (fillBoilers (eligibleBoilers n) fuel).grantOf c = (n.minimumFill fuel).grantOf c :=
      foldl_fillClass_ordered numbered (classes := [1, 2, 3, 4]) (by decide) (mem eb) (mem ec) (by simp; omega) lower
        (n.minimumFill fuel) some room
    have first : (n.minimumFill fuel).grantOf c = 0 ∨ (n.minimumFill fuel).grantOf c = (n.fillBoiler c).fmin :=
      minimum.each _ (inOrder ec)
    omega
  · obtain ⟨pre, post, split⟩ := List.append_of_mem (inOrder e)
    have offer := minimum.offered pre (n.fillBoiler b) post split
    have same : (pre.filter fun c => 0 < (n.minimumFill fuel).grantOf c.number).map (fun c => c.number) ~
        (List.range 6).filter fun c => 0 < (fillBoilers (eligibleBoilers n) fuel).grantOf c ∧
          (n.fillBoiler c).before (n.fillBoiler b) := by
      have distinct : ((pre.filter fun c => 0 < (n.minimumFill fuel).grantOf c.number).map fun c => c.number).Nodup := by
        have all := fillOrder_numbers_nodup ascending
        rw [split, List.map_append] at all
        exact all.of_append_left.sublist (List.filter_sublist.map _)
      refine (List.perm_ext_iff_of_nodup distinct (List.nodup_range.filter _)).mpr fun i => ?_
      simp only [List.mem_map, List.mem_filter, mem_pre_fillOrder ascending split, mem_fillOrder_eligible ranges,
        decide_eq_true_eq, granted, List.mem_range]
      constructor
      · rintro ⟨x, ⟨⟨m, early⟩, some⟩, rfl⟩
        obtain ⟨c, ec, rfl⟩ := mem_eligibleBoilers.mp m
        exact ⟨ec.1, some, early⟩
      · rintro ⟨low, some, early⟩
        have ei : n.eligible i := by
          by_contra out
          have := ineligible i out
          have := granted i
          omega
        exact ⟨n.fillBoiler i, ⟨⟨mem ei, early⟩, some⟩, rfl⟩
    have minima : (pre.filter fun c => 0 < (n.minimumFill fuel).grantOf c.number).map (fun c => c.fmin) =
        ((pre.filter fun c => 0 < (n.minimumFill fuel).grantOf c.number).map fun c => c.number).map
          fun c => (n.fillBoiler c).fmin := by
      rw [List.map_map]
      refine List.map_congr_left fun x m => ?_
      have stands := (mem_fillOrder_eligible ranges).mp ((mem_pre_fillOrder ascending split x).mp (List.mem_of_mem_filter m)).1
      obtain ⟨c, ec, rfl⟩ := mem_eligibleBoilers.mp stands
      rfl
    rw [granted b, ← (same.map _).sum_eq, ← minima]
    exact offer

end Sys2Proof.Machine
end

section
namespace Sys2Proof.Proofs
open Sys2Proof.Machine

/-- R71: a source that pairs with no holder has no correction, and 0 and 2 have those of holders 0 and 1. -/
theorem availableFuel_eq (n : Snapshot) (source : Nat) : availableFuel n source =
    if n.isBound .gasSource source = true then (max 0 ((energyRate (n.value (2 * source)) (n.t2.getD source 0) : Int) -
      (energyRate (n.value (2 * source + 1)) (n.t2.getD source 0) : Int) + pairedCorrection n source)).toNat else 0 := by
  unfold availableFuel netRate
  split <;> rfl

theorem limitTo_cast (top : Nat) (v : Int) : (limitTo top v : Int) = max 0 (min v top) :=
  Int.toNat_of_nonneg (le_max_left ..)

/-- R69: the limited correction of a holder. -/
theorem limitedCorrection_eq (n : Snapshot) (h : Nat) : limitedCorrection n h =
    max (-((n.t3.getD h HolderSetting.zero).correctionLimit : Int))
      (min (((n.t3.getD h HolderSetting.zero).gain : Int) *
        (max 0 (min (n.value (6 + h)) 1000) - (n.targets.getD h 0 : Int)))
        ((n.t3.getD h HolderSetting.zero).correctionLimit : Int)) := by
  simp only [limitedCorrection, limitTo_cast]
  rfl

/-- R70: the correction of a holder by its band. -/
theorem holderCorrection_eq (n : Snapshot) (h : Nat) : holderCorrection n h =
    match n.bands.getD h .unknown with
    | .unknown => 0
    | .lowLow => 0
    | .low => -((n.t3.getD h HolderSetting.zero).correctionLimit : Int)
    | .normal => limitedCorrection n h
    | .high => limitedCorrection n h
    | .highHigh => ((n.t3.getD h HolderSetting.zero).correctionLimit : Int) := rfl

/-- R74: one round, and whether another follows. -/
theorem fillRounds_round {boilers : List FillBoiler} {f : Fill} (k : Nat) (numbered : (boilers.map fun b => b.number).Nodup)
    (known : ∀ b ∈ boilers, b.number < f.grants.length) (some : considered boilers f.grants ≠ []) (left : 0 < f.rest) :
    let cs := considered boilers f.grants
    let share := fillShare f.rest (cs.map fun b => b.weight).sum
    let given := fun b : FillBoiler => min (share b) (b.fmax - f.grantOf b.number)
    ∃ g : Fill, g.banked = f.banked ∧ g.rest = f.rest - (cs.map given).sum ∧
      (∀ b ∈ cs, g.grantOf b.number = f.grantOf b.number + given b) ∧
      (∀ i, (∀ b ∈ cs, b.number ≠ i) → g.grantOf i = f.grantOf i) ∧
      ((∃ b ∈ cs, b.fmax - f.grantOf b.number < share b) → fillRounds boilers (k + 1) f = fillRounds boilers k g) ∧
      ((∀ b ∈ cs, share b ≤ b.fmax - f.grantOf b.number) → fillRounds boilers (k + 1) f = g) := by
  intro cs share given
  obtain ⟨banked, rest, each, others⟩ := foldl_giveTo (f := f) share (cs := cs) (numbered.sublist (List.filter_sublist.map _))
    fun b m => known b (mem_considered.mp m).1
  refine ⟨cs.foldl (giveTo share) f, banked, rest, each, others, fun capped => ?_, fun free => ?_⟩
  all_goals rw [fillRounds_succ (by simp only [some, false_or]; omega)]
  · exact if_pos (by simpa using capped)
  · exact if_neg (by simpa using free)

/-- Settles O27: stages 1 to 3 by their definitions; the fill by what a gift conserves (`Raises`), what the minimum pass
gives (`Minimum`) and what a class leaves (`Settled`), collected in `FillSpec`; one round by `foldl_giveTo`. -/
theorem fillConserves : Obligations.FillConserves := by
  refine ⟨fun n rho => ⟨?_, ?_, rfl⟩, fun n rho ranges => ?_, fun boilers f c => rfl, fun boilers f k numbered known => ?_⟩
  · change [holderCorrection n 0, holderCorrection n 1] = _
    simp only [holderCorrection_eq, limitedCorrection_eq] <;> rfl
  · change [availableFuel n 0, availableFuel n 1, availableFuel n 2] = _
    simp only [availableFuel_eq, pairedCorrection, holderCorrection_eq, limitedCorrection_eq] <;> rfl
  · obtain ⟨length, total, ineligible, range, banked, excess, ordered, offered⟩ :=
      fillBoilers_spec ranges ((List.range 3).map (availableFuel n)).sum
    exact ⟨length, total, ineligible, range, banked, excess, ordered, offered⟩
  · exact ⟨fillRounds_idle, fillRounds_round k numbered known⟩

end Sys2Proof.Proofs
end

section
/-! Stages 5 to 8: the split of the pool, the top-up pass and the proportional shares. -/

namespace Sys2Proof.Machine

theorem sum_filter_map {α : Type} {l : List α} {p : α → Bool} {f : α → Nat} (zero : ∀ a ∈ l, ¬ p a = true → f a = 0) :
    ((l.filter p).map f).sum = (l.map f).sum := by
  induction l with
  | nil => rfl
  | cons a l ih =>
    have rest := ih fun x m => zero x (by simp [m])
    by_cases kept : p a = true
    · simp [kept, rest]
    · simp [kept, rest, zero a (by simp) kept]

theorem limitTo_le (top : Nat) (v : Int) : limitTo top v ≤ top := by
  unfold limitTo
  omega

/-! ## Stages 5 and 6 -/

/-- R81: a boiler that is not eligible makes no steam from recovered fuel. -/
theorem eligible_sum (n : Snapshot) {f : FillBoiler → Nat} (zero : ∀ b < 6, ¬ n.eligible b → f (n.fillBoiler b) = 0) :
    ((eligibleBoilers n).map f).sum = ((List.range 6).map fun b => f (n.fillBoiler b)).sum := by
  unfold eligibleBoilers
  rw [List.map_map]
  refine sum_filter_map (f := f ∘ n.fillBoiler) fun b m out => zero b (List.mem_range.mp m) fun e => out ?_
  obtain ⟨-, bound, serves, set⟩ := e
  simpa [bound, serves] using set

theorem steamFor_mono {r q : Int} (h : r ≤ q) (efficiency : Nat) : steamFor r efficiency ≤ steamFor q efficiency := by
  unfold steamFor ceilDiv
  exact Nat.div_le_div_right (by omega)

section split

variable {pool demand need high : Nat}

/-- R84, R85: what the split conserves and bounds, in either mode. -/
theorem splitPool_bounds (mode : PlantMode) (ordered : need ≤ high) :
    (splitPool mode pool demand need high).heat ≤ demand ∧ (splitPool mode pool demand need high).turbine ≤ high ∧
    pool = (splitPool mode pool demand need high).heat + (splitPool mode pool demand need high).turbine +
      (splitPool mode pool demand need high).dump := by
  cases mode <;> dsimp only [splitPool] <;> omega

/-- R84, R85: a pool that covers the demand and the need is split alike in both modes. -/
theorem splitPool_covered (mode mode' : PlantMode) (ordered : need ≤ high) (covered : demand + need ≤ pool) :
    splitPool mode pool demand need high = splitPool mode' pool demand need high := by
  cases mode <;> cases mode' <;> simp only [splitPool, Split.mk.injEq] <;> omega

/-- R84, R85: a pool that falls short of the two gives another heat in the other mode. -/
theorem splitPool_short (mode : PlantMode) (short : pool < demand + need) (steam : 0 < pool) (asked : 0 < demand)
    (needed : 0 < need) : (splitPool (if mode = .heatFirst then .powerFirst else .heatFirst) pool demand need high).heat ≠
      (splitPool mode pool demand need high).heat := by
  cases mode
  · change min (pool - min pool need) demand ≠ min pool demand
    omega
  · change min pool demand ≠ min (pool - min pool need) demand
    omega

end split

/-! ## Stage 7 -/

/-- The running top-up grant of a boiler. -/
abbrev TopUp.grantOf (p : TopUp) (i : Nat) : Nat := p.grants.getD i 0

/-- R86, R87: what the visits of `l` make of `p`, given the by-product grants. -/
structure ToppedUp (byProduct : List Nat) (l : List FillBoiler) (p q : TopUp) : Prop where
  length : q.grants.length = p.grants.length
  spent : q.left + q.grants.sum = p.left + p.grants.sum
  made : q.short + q.steam = p.short + p.steam
  shorter : q.short ≤ p.short
  fewer : q.left ≤ p.left
  others : ∀ i, (∀ b ∈ l, b.number ≠ i) → q.grantOf i = p.grantOf i
  room : ∀ b ∈ l, q.grantOf b.number ≤ b.fmax - byProduct.getD b.number 0
  banked : ∀ b ∈ l, byProduct.getD b.number 0 = 0 → q.grantOf b.number = 0 ∨ b.fmin ≤ q.grantOf b.number
  filled : 0 < q.short → 0 < q.left → ∀ b ∈ l, 0 < byProduct.getD b.number 0 →
    q.grantOf b.number = b.fmax - byProduct.getD b.number 0
  steam : q.steam = p.steam + (l.map fun b => q.grantOf b.number * b.efficiency / 100).sum

section topUp

variable {byProduct : List Nat} {l : List FillBoiler} {p : TopUp} {b : FillBoiler}

/-- R87: fuel for a shortfall, rounded up, makes at most the shortfall and, where all of it is taken, all of it. -/
theorem raised_bounds {short efficiency u : Nat} (some : 0 < efficiency) (most : efficiency ≤ 100)
    (need : u ≤ ceilDiv (short * 100) efficiency) : u * efficiency / 100 ≤ short ∧
      (u = ceilDiv (short * 100) efficiency → u * efficiency / 100 = short) := by
  have low : u * efficiency < short * 100 + efficiency := by
    have : ceilDiv (short * 100) efficiency * efficiency ≤ short * 100 + efficiency - 1 := Nat.div_mul_le_self _ _
    have := Nat.mul_le_mul_right efficiency need
    omega
  refine ⟨by omega, ?_⟩
  rintro rfl
  have high : short * 100 ≤ ceilDiv (short * 100) efficiency * efficiency := by
    have := Nat.lt_mul_div_succ (short * 100 + efficiency - 1) some
    rw [Nat.mul_add, Nat.mul_comm efficiency] at this
    unfold ceilDiv
    omega
  omega

/-- R87: what a visit offers a boiler. -/
def TopUp.offer (p : TopUp) (byProduct : List Nat) (b : FillBoiler) : Nat :=
  min (b.fmax - byProduct.getD b.number 0) (min (ceilDiv (p.short * 100) b.efficiency) p.left)

/-- R86, R87: a visit that gives a boiler nothing. -/
def TopUp.passes (p : TopUp) (byProduct : List Nat) (b : FillBoiler) : Prop :=
  p.short = 0 ∨ p.left = 0 ∨ b.fmax - byProduct.getD b.number 0 = 0 ∨
    (byProduct.getD b.number 0 = 0 ∧ p.offer byProduct b < b.fmin)

theorem visitTopUp_passes (pass : p.passes byProduct b) : visitTopUp byProduct p b = p := if_pos pass

theorem visitTopUp_gives (gives : ¬ p.passes byProduct b) : visitTopUp byProduct p b =
    ⟨p.short - p.offer byProduct b * b.efficiency / 100, p.left - p.offer byProduct b,
      p.grants.set b.number (p.offer byProduct b), p.steam + p.offer byProduct b * b.efficiency / 100⟩ := if_neg gives

/-- R86, R87: one visit. -/
theorem visitTopUp_spec (known : b.number < p.grants.length) (fresh : p.grantOf b.number = 0) (some : 0 < b.efficiency)
    (most : b.efficiency ≤ 100) : ToppedUp byProduct [b] p (visitTopUp byProduct p b) := by
  by_cases pass : p.passes byProduct b
  · rw [visitTopUp_passes pass]
    refine ⟨rfl, rfl, rfl, le_rfl, le_rfl, fun _ _ => rfl, ?_, ?_, ?_, ?_⟩
    all_goals simp only [List.mem_singleton, forall_eq, fresh, List.map_cons, List.map_nil, List.sum_singleton]
    · exact Nat.zero_le _
    · exact fun _ => .inl trivial
    · unfold TopUp.passes at pass
      omega
    · simp
  · rw [visitTopUp_gives pass]
    obtain ⟨under, whole⟩ := raised_bounds (short := p.short) (u := p.offer byProduct b) some most (by unfold TopUp.offer; omega)
    have within : p.offer byProduct b ≤ p.left := by unfold TopUp.offer; omega
    have own : (p.grants.set b.number (p.offer byProduct b)).getD b.number 0 = p.offer byProduct b :=
      getD_set_self known _ _
    have sum : (p.grants.set b.number (p.offer byProduct b)).sum = p.grants.sum + p.offer byProduct b := by
      rw [← sum_set_add known, show p.grants.getD b.number 0 = 0 from fresh, Nat.zero_add]
    unfold TopUp.passes at pass
    refine ⟨by simp, ?_, ?_, Nat.sub_le _ _, Nat.sub_le _ _, fun i away => getD_set_ne _ (away b (by simp)) _ _, ?_, ?_, ?_, ?_⟩
    · dsimp only; rw [sum]; omega
    · dsimp only; omega
    all_goals simp only [List.mem_singleton, forall_eq, own, List.map_cons, List.map_nil, List.sum_singleton, TopUp.grantOf]
    · unfold TopUp.offer; omega
    · omega
    · intro short left granted
      unfold TopUp.offer at *
      omega

theorem ToppedUp.cons {q r : TopUp} (first : ToppedUp byProduct [b] p q) (rest : ToppedUp byProduct l q r)
    (apart : ∀ c ∈ l, c.number ≠ b.number) : ToppedUp byProduct (b :: l) p r := by
  have own := rest.others b.number apart
  have one : q.grantOf b.number ≤ b.fmax - byProduct.getD b.number 0 := first.room b (by simp)
  refine ⟨rest.length.trans first.length, rest.spent.trans first.spent, rest.made.trans first.made,
    rest.shorter.trans first.shorter, rest.fewer.trans first.fewer, fun i away => ?_, ?_, ?_, fun short left => ?_, ?_⟩
  · rw [rest.others i fun c m => away c (by simp [m]), first.others i (by simpa using away b (by simp))]
  · exact List.forall_mem_cons.mpr ⟨by rw [own]; exact first.room b (by simp), rest.room⟩
  · exact List.forall_mem_cons.mpr ⟨by rw [own]; exact first.banked b (by simp), rest.banked⟩
  · refine List.forall_mem_cons.mpr ⟨?_, rest.filled short left⟩
    rw [own]
    exact first.filled (short.trans_le rest.shorter) (left.trans_le rest.fewer) b (by simp)
  · have made := first.steam
    simp only [List.map_cons, List.map_nil, List.sum_singleton] at made
    rw [rest.steam, made, List.map_cons, List.sum_cons, own, Nat.add_assoc]

theorem foldl_visitTopUp (numbered : (l.map fun b => b.number).Nodup) (known : ∀ b ∈ l, b.number < p.grants.length)
    (fresh : ∀ b ∈ l, p.grantOf b.number = 0) (some : ∀ b ∈ l, 0 < b.efficiency) (most : ∀ b ∈ l, b.efficiency ≤ 100) :
    ToppedUp byProduct l p (l.foldl (visitTopUp byProduct) p) := by
  induction l generalizing p with
  | nil => exact ⟨rfl, rfl, rfl, le_rfl, le_rfl, fun _ _ => rfl, by simp, by simp, by simp, by simp⟩
  | cons b l ih =>
    obtain ⟨new, rest⟩ := List.nodup_cons.mp numbered
    have apart : ∀ c ∈ l, c.number ≠ b.number := fun c m same => new (List.mem_map.mpr ⟨c, m, same⟩)
    have first := visitTopUp_spec (byProduct := byProduct) (known b (by simp)) (fresh b (by simp)) (some b (by simp))
      (most b (by simp))
    refine first.cons (ih rest (fun c m => ?_) (fun c m => ?_) (fun c m => some c (by simp [m]))
      fun c m => most c (by simp [m])) apart
    · rw [first.length]; exact known c (by simp [m])
    · rw [first.others _ (by simpa using (apart c m).symm)]; exact fresh c (by simp [m])

end topUp

/-! ## Stage 8 -/

theorem handResidue_nothing (claims xs : List Nat) : handResidue 0 claims xs = xs := by
  induction xs generalizing claims with
  | nil => cases claims <;> rfl
  | cons x xs ih =>
    cases claims with
    | nil => rfl
    | cons c claims => simp [handResidue, ih]

theorem handResidue_length (rest : Nat) (claims xs : List Nat) : (handResidue rest claims xs).length = xs.length := by
  induction xs generalizing rest claims with
  | nil => cases claims <;> rfl
  | cons x xs ih =>
    cases claims with
    | nil => rfl
    | cons c claims => simp [handResidue, ih]

/-- R88, R89: what the residue pass makes of shares that stand under their claims. -/
theorem handResidue_spec {claims xs : List Nat} (under : List.Forall₂ (· ≤ ·) xs claims) {rest : Nat}
    (fits : xs.sum + rest ≤ claims.sum) :
    (handResidue rest claims xs).sum = xs.sum + rest ∧
    ∀ i < claims.length, xs.getD i 0 ≤ (handResidue rest claims xs).getD i 0 ∧
      (handResidue rest claims xs).getD i 0 ≤ claims.getD i 0 ∧
      (xs.getD i 0 < (handResidue rest claims xs).getD i 0 →
        ∀ j < i, (handResidue rest claims xs).getD j 0 = claims.getD j 0) := by
  induction under generalizing rest with
  | nil =>
    have nothing : rest = 0 := by simpa using fits
    simp [handResidue, nothing]
  | @cons x c xs claims le under ih =>
    simp only [List.sum_cons] at fits
    have total : xs.sum ≤ claims.sum := under.sum_le_sum
    obtain ⟨sum, each⟩ := ih (rest := rest - min rest (c - x)) (by omega)
    refine ⟨by simp only [handResidue, List.sum_cons, sum]; omega, fun i low => ?_⟩
    cases i with
    | zero => simp only [handResidue, List.getD_cons_zero]; exact ⟨by omega, by omega, by simp⟩
    | succ i =>
      obtain ⟨more, most, order⟩ := each i (Nat.lt_of_succ_lt_succ low)
      simp only [handResidue, List.getD_cons_succ]
      refine ⟨more, most, fun grown j before => ?_⟩
      cases j with
      | succ j => exact order grown j (Nat.lt_of_succ_lt_succ before)
      | zero =>
        simp only [List.getD_cons_zero]
        by_contra room
        have spent : rest - min rest (c - x) = 0 := by omega
        rw [spent, handResidue_nothing] at grown
        omega

/-- R88, R89: the shares of an amount that the claims cover. -/
structure Shared (amount : Nat) (claims shares : List Nat) : Prop where
  length : shares.length = claims.length
  sum : shares.sum = amount
  each : ∀ i < claims.length, amount * claims.getD i 0 / claims.sum ≤ shares.getD i 0 ∧
    shares.getD i 0 ≤ claims.getD i 0 ∧ (amount * claims.getD i 0 / claims.sum < shares.getD i 0 →
      ∀ j < i, shares.getD j 0 = claims.getD j 0)

theorem proportionalShares_shared {amount : Nat} {claims : List Nat} (covered : amount ≤ claims.sum) :
    Shared amount claims (proportionalShares amount claims.sum claims) := by
  have under : List.Forall₂ (· ≤ ·) (claims.map fun c => amount * c / claims.sum) claims := by
    refine List.forall₂_map_left_iff.mpr (List.forall₂_same.mpr fun c _ => ?_)
    exact Nat.div_le_of_le_mul (Nat.mul_le_mul_right c covered)
  have parts : (claims.map fun c => amount * c / claims.sum).sum ≤ amount := by
    simpa using sum_parts_le claims id amount
  obtain ⟨sum, each⟩ := handResidue_spec under (rest := amount - (claims.map fun c => amount * c / claims.sum).sum)
    (by omega)
  refine ⟨by simp [proportionalShares, handResidue_length], by rw [proportionalShares, sum]; omega, fun i low => ?_⟩
  have part : (claims.map fun c => amount * c / claims.sum).getD i 0 = amount * claims.getD i 0 / claims.sum := by
    simp [List.getElem?_eq_getElem low]
  have stands := each i low
  rwa [part] at stands

theorem Shared.le {amount : Nat} {claims shares : List Nat} (h : Shared amount claims shares) (i : Nat) :
    shares.getD i 0 ≤ claims.getD i 0 := by
  by_cases low : i < claims.length
  · exact (h.each i low).2.1
  · have out : shares[i]? = none := List.getElem?_eq_none (by rw [h.length]; omega)
    simp [out]

/-! ## The computation -/

section compute

variable (n : Snapshot) (rho : Nat)

/-- R86: the top-up pass visits the boilers in fill order, in HEAT-FIRST with top-up on, and none otherwise. -/
theorem topUpPass_spec (ranges : ∀ e ∈ n.t4, e.inRange) (byProduct : List Nat) (shortfall : Nat) :
    (n.mode = .heatFirst ∧ n.t8.topUp = true → ToppedUp byProduct (fillOrder (eligibleBoilers n))
      ⟨shortfall, n.t8.purchaseLimit, List.replicate 6 0, 0⟩ (topUpPass n (eligibleBoilers n) byProduct shortfall)) ∧
    (¬ (n.mode = .heatFirst ∧ n.t8.topUp = true) → topUpPass n (eligibleBoilers n) byProduct shortfall =
      ⟨shortfall, n.t8.purchaseLimit, List.replicate 6 0, 0⟩) := by
  refine ⟨fun on => ?_, fun off => if_neg off⟩
  rw [topUpPass, if_pos on]
  have known : ∀ x ∈ fillOrder (eligibleBoilers n), ∃ b, n.eligible b ∧ n.fillBoiler b = x := fun x m =>
    mem_eligibleBoilers.mp ((mem_fillOrder_eligible ranges).mp m)
  refine foldl_visitTopUp (fillOrder_numbers_nodup (eligibleBoilers_pairwise n)) (fun x m => ?_) (fun x m => ?_)
    (fun x m => ?_) fun x m => ?_
  all_goals obtain ⟨b, e, rfl⟩ := known x m
  · exact e.1
  · exact replicate_zero_getD _ _
  all_goals have range := Snapshot.eligible_range ranges e
  all_goals omega

/-- R86, R87: the top-up of a snapshot, by its eligible boilers. -/
structure TopUpSpec (n : Snapshot) (byProduct : List Nat) (shortfall : Nat) (q : TopUp) : Prop where
  length : q.grants.length = 6
  spent : q.left + q.grants.sum = n.t8.purchaseLimit
  made : q.short + q.steam = shortfall
  ineligible : ∀ b, ¬ n.eligible b → q.grantOf b = 0
  room : ∀ b, n.eligible b → q.grantOf b ≤ (n.fillBoiler b).fmax - byProduct.getD b 0
  banked : ∀ b, n.eligible b → byProduct.getD b 0 = 0 → q.grantOf b = 0 ∨ (n.fillBoiler b).fmin ≤ q.grantOf b
  filled : n.mode = .heatFirst → n.t8.topUp = true → 0 < q.short → 0 < q.left → ∀ b, n.eligible b →
    0 < byProduct.getD b 0 → q.grantOf b = (n.fillBoiler b).fmax - byProduct.getD b 0
  off : ¬ (n.mode = .heatFirst ∧ n.t8.topUp = true) → q.steam = 0 ∧ q.grants.sum = 0
  steam : q.steam = ((List.range 6).map fun b => q.grantOf b * (n.fillBoiler b).efficiency / 100).sum

theorem topUpSpec {n : Snapshot} (ranges : ∀ e ∈ n.t4, e.inRange) (byProduct : List Nat) (shortfall : Nat) :
    TopUpSpec n byProduct shortfall (topUpPass n (eligibleBoilers n) byProduct shortfall) := by
  obtain ⟨onPass, offPass⟩ := topUpPass_spec n ranges byProduct shortfall
  by_cases on : n.mode = .heatFirst ∧ n.t8.topUp = true
  · have pass := onPass on
    have visited : ∀ {b}, n.eligible b → n.fillBoiler b ∈ fillOrder (eligibleBoilers n) := fun e =>
      (mem_fillOrder_eligible ranges).mpr (mem_eligibleBoilers.mpr ⟨_, e, rfl⟩)
    have none : ∀ b, ¬ n.eligible b → (topUpPass n (eligibleBoilers n) byProduct shortfall).grantOf b = 0 := fun b out => by
      refine (pass.others b fun x m same => ?_).trans (replicate_zero_getD _ _)
      obtain ⟨c, e, rfl⟩ := mem_eligibleBoilers.mp ((mem_fillOrder_eligible ranges).mp m)
      exact out (same ▸ e)
    refine ⟨pass.length, by simpa using pass.spent, by simpa using pass.made, none, fun b e => pass.room _ (visited e),
      fun b e => pass.banked _ (visited e), fun _ _ short left b e => pass.filled short left _ (visited e),
      fun off => absurd on off, ?_⟩
    have order : ((fillOrder (eligibleBoilers n)).map fun b =>
        (topUpPass n (eligibleBoilers n) byProduct shortfall).grantOf b.number * b.efficiency / 100).sum =
        ((eligibleBoilers n).map fun b =>
          (topUpPass n (eligibleBoilers n) byProduct shortfall).grantOf b.number * b.efficiency / 100).sum := by
      refine (List.Perm.map _ ((List.perm_ext_iff_of_nodup ?_ ?_).mpr fun x => mem_fillOrder_eligible ranges)).sum_eq
      · exact .of_map _ (fillOrder_numbers_nodup (eligibleBoilers_pairwise n))
      · exact .of_map _ (numbers_nodup (eligibleBoilers_pairwise n))
    rw [pass.steam, order, Nat.zero_add]
    exact eligible_sum n fun b _ out => by
      change (topUpPass n (eligibleBoilers n) byProduct shortfall).grantOf b * _ / 100 = 0
      rw [none b out, Nat.zero_mul]
  · rw [offPass on]
    have none : ∀ b, TopUp.grantOf ⟨shortfall, n.t8.purchaseLimit, List.replicate 6 0, 0⟩ b = 0 := replicate_zero_getD 6
    exact ⟨rfl, rfl, rfl, fun b _ => none b, fun b _ => (none b).trans_le (Nat.zero_le _), fun b _ _ => .inl (none b),
      fun heat pass => absurd ⟨heat, pass⟩ on, fun _ => ⟨rfl, rfl⟩, by
        simp only [none, Nat.zero_mul, Nat.zero_div, List.map_const', List.sum_replicate, smul_zero]⟩

/-- R84 to R87: the town heat stays within the demand, and the turbine steam within the cap. -/
theorem compute_bounds (ranges : ∀ e ∈ n.t4, e.inRange) :
    (compute n rho).heat + (compute n rho).topHeat ≤ (compute n rho).demand ∧
    (compute n rho).turbine ≤ (compute n rho).turbineCap := by
  have need : (compute n rho).turbineNeed ≤ (compute n rho).turbineHigh := by
    exact min_le_min le_rfl (steamFor_mono (by omega) _)
  have high : (compute n rho).turbineHigh ≤ (compute n rho).turbineCap := Nat.min_le_left ..
  obtain ⟨heat, turbine, -⟩ := splitPool_bounds (pool := (compute n rho).pool) (demand := (compute n rho).demand) n.mode need
  have made := (topUpSpec ranges (compute n rho).byProduct ((compute n rho).demand - (compute n rho).heat)).made
  change (compute n rho).heat ≤ _ at heat
  change _ + (compute n rho).topHeat = _ at made
  exact ⟨by omega, turbine.trans high⟩

theorem exchangerShares_shared (ranges : ∀ e ∈ n.t4, e.inRange) :
    Shared ((compute n rho).heat + (compute n rho).topHeat) (exchangerClaims n) (compute n rho).exchangerShares :=
  proportionalShares_shared (compute_bounds n rho ranges).1

theorem turbineShares_shared (ranges : ∀ e ∈ n.t4, e.inRange) :
    Shared (compute n rho).turbine (turbineClaims n) (compute n rho).turbineShares :=
  proportionalShares_shared (compute_bounds n rho ranges).2

/-- R76, R87: what is published for a boiler is 0 or in its range. -/
theorem published_range (ranges : ∀ e ∈ n.t4, e.inRange) (b : Nat) :
    let published := (compute n rho).byProduct.getD b 0 + (compute n rho).topUp.getD b 0
    published = 0 ∨ ((n.fillBoiler b).fmin ≤ published ∧ published ≤ (n.fillBoiler b).fmax) := by
  have fill := fillBoilers_spec ranges ((List.range 3).map (availableFuel n)).sum
  have top := topUpSpec ranges (compute n rho).byProduct ((compute n rho).demand - (compute n rho).heat)
  by_cases e : n.eligible b
  · have range := Snapshot.eligible_range ranges e
    have given : (compute n rho).byProduct.getD b 0 = 0 ∨ ((n.fillBoiler b).fmin ≤ (compute n rho).byProduct.getD b 0 ∧
      (compute n rho).byProduct.getD b 0 ≤ (n.fillBoiler b).fmax) := fill.range b e
    have room : (compute n rho).topUp.getD b 0 ≤ (n.fillBoiler b).fmax - (compute n rho).byProduct.getD b 0 := top.room b e
    have banked : (compute n rho).byProduct.getD b 0 = 0 → (compute n rho).topUp.getD b 0 = 0 ∨
      (n.fillBoiler b).fmin ≤ (compute n rho).topUp.getD b 0 := top.banked b e
    omega
  · have none : (compute n rho).byProduct.getD b 0 = 0 := fill.ineligible b e
    have out : (compute n rho).topUp.getD b 0 = 0 := top.ineligible b e
    exact .inl (by omega)

theorem exchangerClaims_le (x : Nat) : (exchangerClaims n).getD x 0 ≤ (n.t6.getD x ExchangerSetting.zero).maxHeat := by
  by_cases low : x < 4
  · simp only [exchangerClaims, List.getD_eq_getElem?_getD, List.getElem?_map, List.getElem?_range low, Option.map_some,
      Option.getD_some]
    split
    · exact Nat.min_le_right ..
    · exact Nat.zero_le _
  · simp [exchangerClaims, Nat.le_of_not_lt low]

theorem turbineClaims_le (i : Nat) : (turbineClaims n).getD i 0 ≤ (n.t5.getD i TurbineSetting.zero).maxSteam := by
  by_cases low : i < 2
  · simp only [turbineClaims, List.getD_eq_getElem?_getD, List.getElem?_map, List.getElem?_range low, Option.map_some,
      Option.getD_some]
    split
    · exact le_rfl
    · exact Nat.zero_le _
  · simp [turbineClaims, List.getElem?_eq_none, Nat.le_of_not_lt low]

theorem flareGrant_le (excess : Nat) : flareGrant n excess ≤ n.t7.flareMax := by
  unfold flareGrant
  split
  · exact Nat.min_le_right ..
  · exact Nat.zero_le _

theorem flareGrant_excess (excess : Nat) : flareGrant n excess ≤ excess := by
  unfold flareGrant
  split
  · exact Nat.min_le_left ..
  · exact Nat.zero_le _

end compute

end Sys2Proof.Machine
end

section
namespace Sys2Proof.Proofs
open Sys2Proof.Machine

/-- R81: the steam pool by the published by-product grants. -/
theorem compute_pool (n : Snapshot) (rho : Nat) : (compute n rho).pool =
    ((List.range 6).map fun b => (compute n rho).byProduct.getD b 0 *
      (n.t4.getD b BoilerSetting.zero).efficiency / 100).sum + recoverySteam n := by
  refine congrArg (· + recoverySteam n) (eligible_sum n fun b _ out => ?_)
  change (fillBoilers (eligibleBoilers n) _).grantOf b * _ / 100 = 0
  rw [fillBoilers_ineligible n _ b out, Nat.zero_mul]

/-- R84, R85: the three parts are those of the split in the mode of the snapshot. -/
theorem compute_split (n : Snapshot) (rho : Nat) (mode : PlantMode) :
    (⟨(compute { n with mode := mode } rho).heat, (compute { n with mode := mode } rho).turbine,
      (compute { n with mode := mode } rho).dump⟩ : Split) =
    splitPool mode (compute n rho).pool (compute n rho).demand (compute n rho).turbineNeed (compute n rho).turbineHigh := rfl

/-- Settles O28: the quantities by their definitions, the split by its three lemmas. -/
theorem poolSplit : Obligations.PoolSplit := by
  intro n rho m other steam
  have need : m.turbineNeed ≤ m.turbineHigh := min_le_min le_rfl (steamFor_mono (by omega) _)
  have own : (⟨m.heat, m.turbine, m.dump⟩ : Split) = splitPool n.mode m.pool m.demand m.turbineNeed m.turbineHigh := rfl
  have others : (⟨other.heat, other.turbine, other.dump⟩ : Split) = _ := compute_split n rho _
  obtain ⟨within, turbineWithin, whole⟩ := splitPool_bounds n.mode (pool := m.pool) (demand := m.demand) need
  rw [← own] at within turbineWithin whole
  refine ⟨compute_pool n rho, ?_, ?_, rfl, rfl, rfl, rfl, rfl, rfl, rfl, rfl, fun first => ?_, fun first => ?_, within,
    turbineWithin, whole, fun covered => ?_, fun short some asked needed => ?_⟩
  · simp [exchangerClaims, and_assoc]
  · simp [turbineClaims, and_assoc]
  · rw [show n.mode = .heatFirst from first] at own
    simp only [splitPool, Split.mk.injEq] at own
    omega
  · rw [show n.mode = .powerFirst from first] at own
    simp only [splitPool, Split.mk.injEq] at own
    dsimp only
    omega
  · have same := others.trans ((splitPool_covered _ _ need covered).trans own.symm)
    simpa only [Split.mk.injEq] using same
  · have differ := splitPool_short (high := m.turbineHigh) n.mode short some asked needed
    rwa [← own, ← others] at differ

/-- Settles O29: the top-up by `TopUpSpec`, the shares by `Shared`, the rest by the computation's own lines. -/
theorem topUpAndShares : Obligations.TopUpAndShares := by
  intro n rho ranges m setting byProduct published shared
  have top := topUpSpec ranges m.byProduct (m.demand - m.heat)
  have fill := fillBoilers_spec ranges ((List.range 3).map (availableFuel n)).sum
  obtain ⟨covered, -⟩ := compute_bounds n rho ranges
  have exchangers := exchangerShares_shared n rho ranges
  have turbines := turbineShares_shared n rho ranges
  have made : m.shortfall = m.demand - m.heat - m.topHeat := rfl
  have spent : _ + m.topUp.sum = n.t8.purchaseLimit := top.spent
  refine ⟨⟨top.length, covered, made, by omega, top.steam, fun off => top.off ?_, fun heat on short left b _ granted => ?_,
    fun b _ => published_range n rho ranges b⟩, ?_, ?_, ?_, ?_, rfl, fun fits => originPerMille_le fits _ _, fun none some => ?_,
    ?_, ?_, ?_, rfl, rfl, rfl⟩
  · rintro ⟨heat, on⟩
    rcases off with power | off
    · exact absurd (heat.symm.trans power) (by decide)
    · exact absurd (on.symm.trans off) (by decide)
  · have e : n.eligible b := by
      by_contra out
      exact absurd (fill.ineligible b out) granted.ne'
    have range := Snapshot.eligible_range ranges e
    have given := (fill.range b e).resolve_left granted.ne'
    have steam : _ + m.topHeat = m.demand - m.heat := top.made
    have filled : m.topUp.getD b 0 = (n.fillBoiler b).fmax - byProduct b :=
      top.filled heat on (by omega) (by omega) b e granted
    change byProduct b + m.topUp.getD b 0 = (n.fillBoiler b).fmax
    change _ ∧ byProduct b ≤ _ at given
    omega
  · exact ⟨exchangers.length, exchangers.sum, exchangers.each⟩
  · exact ⟨turbines.length, turbines.sum, turbines.each⟩
  · change flareGrant n m.excess = _
    simp [flareGrant, and_assoc, and_or_left, exists_or]
  · exact Nat.add_sub_cancel' (flareGrant_excess n m.excess)
  · change originPerMille rho m.heat m.topHeat = 1000
    rw [none, originPerMille, if_neg (by omega), Nat.add_zero, Nat.mul_div_cancel _ some]
  · change anySubstituted n = true ↔ _
    simp [anySubstituted]
  · change decide (m.heat + m.topHeat < m.demand) = true ↔ _
    rw [decide_eq_true_eq]
    omega
  · change decide (m.turbine < m.turbineNeed) = true ↔ _
    rw [decide_eq_true_eq]

/-- R91: where each grant stands in the list handed over. -/
theorem grantsOf_getD {m : Summary} (turbines : m.turbineShares.length = 2) (exchangers : m.exchangerShares.length = 4) :
    (∀ b < 6, (grantsOf m).getD b 0 = m.byProduct.getD b 0 + m.topUp.getD b 0) ∧
    (∀ i < 2, (grantsOf m).getD (6 + i) 0 = m.turbineShares.getD i 0) ∧
    (∀ x < 4, (grantsOf m).getD (8 + x) 0 = m.exchangerShares.getD x 0) ∧ (grantsOf m).getD 12 0 = m.flareGrant := by
  obtain ⟨t0, t1, two⟩ := List.length_eq_two.mp turbines
  obtain ⟨x0, x1, x2, x3, four⟩ := List.length_eq_four.mp exchangers
  unfold grantsOf
  rw [two, four]
  refine ⟨fun b low => ?_, fun i low => ?_, fun x low => ?_, rfl⟩
  · interval_cases b <;> rfl
  · interval_cases i <;> rfl
  · interval_cases x <;> rfl

/-- Settles O30: published boiler grants lie in their ranges, shares under their claims, claims under their maxima. -/
theorem grantsWithinMaximum : Obligations.GrantsWithinMaximum := by
  rintro n rho ⟨boilers, -, -, -⟩ grants
  have exchangers := exchangerShares_shared n rho boilers
  have turbines := turbineShares_shared n rho boilers
  obtain ⟨boiler, turbine, exchanger, flare⟩ := grantsOf_getD turbines.length exchangers.length
  refine ⟨by simp [grants, grantsOf, turbines.length, exchangers.length, turbineClaims, exchangerClaims], fun b low => ?_,
    fun i low => ?_, fun x low => ?_, ?_⟩
  · rw [boiler b low]
    have range := published_range n rho boilers b
    change _ ≤ (n.fillBoiler b).fmax
    omega
  · rw [turbine i low]
    exact (turbines.le i).trans (turbineClaims_le n i)
  · rw [exchanger x low]
    exact (exchangers.le x).trans (exchangerClaims_le n x)
  · rw [flare]
    exact flareGrant_le n _

end Sys2Proof.Proofs
end

section
/-! The Governor: what a usable DEMAND is sent as, and what moves a limit. -/

namespace Sys2Proof.Machine

/-! ## The changed DEMAND (R103) -/

section changed

variable {s : State} {f : List Byte} (mode : GovMode) (v : Int)

/-- R103: the reason code of a changed DEMAND's tag. -/
def State.changeReason (s : State) (mode : GovMode) : Nat :=
  if s.alloc.state = .tripped then reasonTripped else if mode = .replace then reasonReplaced else reasonClamped

theorem changedDemand_tagged (room : frameTags f < 3) : changedDemand s mode f v = rebuildDemand f (frameTags f + 1)
    ((tagBytes s.pins.station (s.changeReason mode) (demandSetpoint f) ++ demandTags f) ++
      bodyBytes ((demandBody f).getD 0 0) ((demandBody f).getD 1 0) v) := if_pos room

theorem changedDemand_tagFull (full : ¬ frameTags f < 3) : changedDemand s mode f v = rebuildDemand f 3
    (demandTags f ++ bodyBytes ((demandBody f).getD 0 0) ((demandBody f).getD 1 0 ||| 1#8) v) := if_neg full

/-- R103: a changed DEMAND is rebuilt from whole tags, at most three, and a body with the new setpoint. -/
theorem changedDemand_rebuilt (size : sizeOk f = true) (consistent : demandConsistent f = true) :
    ∃ tags before channel flags, tags ≤ 3 ∧ before.length = 6 * tags ∧
      changedDemand s mode f v = rebuildDemand f tags (before ++ bodyBytes channel flags v) := by
  obtain ⟨few, -⟩ := (demandConsistent_iff f).mp consistent
  have whole := demandTags_length size consistent
  by_cases room : frameTags f < 3
  · exact ⟨_, _, _, _, room, by simp [whole]; omega, changedDemand_tagged mode v room⟩
  · have full : frameTags f = 3 := by omega
    exact ⟨3, _, _, _, le_rfl, full ▸ whole, changedDemand_tagFull mode v room⟩

end changed

/-! ## A usable DEMAND (R102 to R104) -/

section usable

variable {s : State} {f : List Byte} {k : Nat}

theorem governDemand_unaddressed (usable : Bool) (none : governedRecord s f = none) :
    governDemand s f usable = (f, s) := by
  simp [governDemand, none]

theorem governDemand_usable_passed (addressed : governedRecord s f = some k) (free : ¬ governs s k = true) :
    governDemand s f true = (f, recordRequest s k (demandSetpoint f) (demandSetpoint f)) := by
  simp [governDemand, addressed, free]

/-- R102: the setpoint a governed DEMAND carries out. -/
def State.passedSetpoint (s : State) (k : Nat) (f : List Byte) : Int :=
  governedSetpoint (s.tables.governing k).mode (s.grant k).limit (demandSetpoint f)

theorem governDemand_usable_governed (addressed : governedRecord s f = some k) (governed : governs s k = true) :
    governDemand s f true =
      (if s.passedSetpoint k f = demandSetpoint f then f
        else changedDemand s (s.tables.governing k).mode f (s.passedSetpoint k f),
        (recordRequest s k (demandSetpoint f) (s.passedSetpoint k f)).putOnLine k) := by
  simp only [governDemand, addressed, governed, if_true]
  rfl

/-- R102: a governed setpoint lies between 0 and the limit. -/
theorem governedSetpoint_range {mode : GovMode} (governs : mode ≠ .pass) (limit : Nat) (v : Int) :
    0 ≤ governedSetpoint mode limit v ∧ governedSetpoint mode limit v ≤ limit := by
  cases mode with
  | pass => exact absurd rfl governs
  | clamp => simp only [governedSetpoint]; omega
  | replace => simp [governedSetpoint]

/-- R102, R103: the frame a governed DEMAND is sent as carries the governed setpoint. -/
theorem demandSetpoint_governed {v : Int} (mode : GovMode) (size : sizeOk f = true) (consistent : demandConsistent f = true)
    (low : -2147483648 ≤ v) (high : v ≤ 2147483647) :
    demandSetpoint (if v = demandSetpoint f then f else changedDemand s mode f v) = v := by
  split
  · rename_i same
    exact same.symm
  · obtain ⟨tags, before, channel, flags, few, tagged, rebuilt⟩ := changedDemand_rebuilt (s := s) mode v size consistent
    rw [rebuilt, demandSetpoint_rebuildDemand few tagged low high]

end usable

/-! ## Limits -/

section limits

variable (s : State)

theorem State.grant_onGrants {k : Nat} (known : k < s.governor.grants.length) (f : Nat → Bool → GrantRecord → GrantRecord) :
    (s.onGrants f).grant k = f k (s.governor.onLine == some k) (s.grant k) := by
  simp only [State.grant, List.getD_eq_getElem?_getD, State.onGrants_governor_grants, mapFrom_getElem?, Nat.zero_add,
    List.getElem?_eq_getElem known, Option.map_some, Option.getD_some]

theorem State.grant_unknown {k : Nat} (unknown : s.governor.grants.length ≤ k) : s.grant k = GrantRecord.initial := by
  simp [State.grant, unknown]

/-- R113: a record on the line keeps its limit, and any other its pending limit. -/
structure Relimited (onLine : Bool) (r r' : GrantRecord) : Prop where
  held : onLine = true → r'.limit = r.limit
  free : onLine = false → r'.pending = r.pending

theorem Relimited.refl (onLine : Bool) (r : GrantRecord) : Relimited onLine r r := ⟨fun _ => rfl, fun _ => rfl⟩

theorem GrantRecord.withLimit_relimited (onLine : Bool) (v : Nat) (r : GrantRecord) :
    Relimited onLine r (r.withLimit onLine v) := by
  cases onLine
  · exact ⟨fun h => Bool.noConfusion h, fun _ => rfl⟩
  · exact ⟨fun _ => rfl, fun h => Bool.noConfusion h⟩

/-- R98: a limit and a pending limit in the range of a limit. -/
def GrantRecord.bounded (r : GrantRecord) : Prop := r.limit ≤ 1000000 ∧ ∀ p, r.pending = some p → p ≤ 1000000

theorem GrantRecord.withLimit_bounded {v : Nat} (low : v ≤ 1000000) (onLine : Bool) {r : GrantRecord} (h : r.bounded) :
    (r.withLimit onLine v).bounded := by
  cases onLine
  · exact ⟨low, h.2⟩
  · exact ⟨h.1, fun p same => by cases same; exact low⟩

theorem GrantRecord.current_bounded {r : GrantRecord} (h : r.bounded) : r.current ≤ 1000000 := by
  unfold GrantRecord.current
  cases pending : r.pending with
  | none => exact h.1
  | some p => exact h.2 p pending

/-- R113: the Governor moved limits as a record on the line allows, and touched neither the line nor the records' number. -/
structure Regoverned (s t : State) : Prop where
  line : t.governor.onLine = s.governor.onLine
  length : t.governor.grants.length = s.governor.grants.length
  each : ∀ k, Relimited (s.governor.onLine == some k) (s.grant k) (t.grant k)

theorem Regoverned.of_governor_eq {s t : State} (same : t.governor = s.governor) : Regoverned s t := by
  refine ⟨by rw [same], by rw [same], fun k => ?_⟩
  rw [show t.grant k = s.grant k by simp only [State.grant, same]]
  exact .refl _ _

theorem onGrants_regoverned {f : Nat → Bool → GrantRecord → GrantRecord}
    (each : ∀ k onLine r, Relimited onLine r (f k onLine r)) : Regoverned s (s.onGrants f) := by
  refine ⟨rfl, by simp, fun k => ?_⟩
  by_cases known : k < s.governor.grants.length
  · rw [s.grant_onGrants known]
    exact each _ _ _
  · have high := Nat.le_of_not_lt known
    rw [s.grant_unknown high, (s.onGrants f).grant_unknown (by simpa using high)]
    exact .refl _ _

theorem onGrants_bounded {f : Nat → Bool → GrantRecord → GrantRecord}
    (each : ∀ k onLine r, r.bounded → (f k onLine r).bounded) (h : ∀ r ∈ s.governor.grants, r.bounded) :
    ∀ r ∈ (s.onGrants f).governor.grants, r.bounded := by
  intro r m
  obtain ⟨k, old, mem, rfl⟩ := mapFrom_mem m
  exact each _ _ _ (h old mem)

theorem serviceStatus_regoverned (k : Nat) (v : Int) : Regoverned s (serviceStatus k v s) := by
  unfold serviceStatus
  split
  · refine onGrants_regoverned s fun i onLine r => ?_
    split
    · exact r.withLimit_relimited onLine 0
    · exact .refl _ _
  · exact .of_governor_eq rfl

theorem serviceStatus_bounded (k : Nat) (v : Int) (h : ∀ r ∈ s.governor.grants, r.bounded) :
    ∀ r ∈ (serviceStatus k v s).governor.grants, r.bounded := by
  unfold serviceStatus
  split
  · refine onGrants_bounded s (fun i onLine r old => ?_) h
    split
    · exact r.withLimit_bounded (Nat.zero_le _) onLine old
    · exact old
  · exact h

theorem tripJump_regoverned : Regoverned s (tripJump s) :=
  onGrants_regoverned s fun _ onLine r => r.withLimit_relimited onLine _

theorem initialiseLimits_regoverned : Regoverned s (initialiseLimits s) :=
  onGrants_regoverned s fun _ onLine r => r.withLimit_relimited onLine _

theorem takeGrants_regoverned (grants : List Nat) (period : Nat) : Regoverned s (takeGrants grants period s) := by
  refine onGrants_regoverned s fun k onLine r => ?_
  dsimp only
  split
  · obtain ⟨held, free⟩ := ({ r with grant := grants.getD k 0 } : GrantRecord).withLimit_relimited onLine
      (rampLimit (s.tables.governing k).ramp period r.current (grants.getD k 0))
    exact ⟨held, free⟩
  · exact ⟨fun _ => rfl, fun _ => rfl⟩

/-- R123: what a cause does to the limits. -/
theorem raiseCause_governor (c : Cause) : (raiseCause c s).governor = s.governor ∨
    (raiseCause c s).governor = (tripJump s).governor := by
  by_cases known : s.hasCause c = true
  · exact .inl (by rw [raiseCause_known s known])
  · rw [raiseCause_new s known]
    have told : (s.causeTold c).governor = s.governor := State.notice_governor _ _ _
    by_cases running : (s.causeTold c).alloc.state = .running
    · have tables : (s.causeTold c).tables = s.tables := State.notice_tables _ _ _
      refine .inr ?_
      rw [tripIfRunning_running _ running]
      simp only [tripJump, State.onGrants, State.markBlock, State.onBlock, told, tables]
    · exact .inl (by rw [tripIfRunning_idle _ running, told])

theorem Regoverned.congr {s t s' t' : State} (h : Regoverned s t) (source : s'.governor = s.governor)
    (target : t'.governor = t.governor) : Regoverned s' t' :=
  ⟨by rw [target, source, h.line], by rw [target, source, h.length], fun k => by
    rw [show s'.grant k = s.grant k by simp only [State.grant, source],
      show t'.grant k = t.grant k by simp only [State.grant, target], source]
    exact h.each k⟩

theorem raiseCause_regoverned (c : Cause) : Regoverned s (raiseCause c s) :=
  (raiseCause_governor s c).elim .of_governor_eq ((tripJump_regoverned s).congr rfl)

/-- R65: the part with a computation's summary published. -/
def State.published (s : State) (n : Snapshot) : State :=
  { s with alloc := { s.alloc with computing := none, summary := compute n s.alloc.rho, rho := (compute n s.alloc.rho).rho } }

theorem completionEffect_computing {n : Snapshot} (computing : s.alloc.computing = some n) :
    completionEffect s = takeGrants (grantsOf (compute n s.alloc.rho)) n.period (s.published n) := by
  simp only [completionEffect, computing]
  rfl

theorem completionEffect_idle (idle : s.alloc.computing = none) : completionEffect s = s := by
  simp only [completionEffect, idle]

theorem completionEffect_regoverned : Regoverned s (completionEffect s) := by
  cases computing : s.alloc.computing with
  | none => exact .of_governor_eq (by rw [completionEffect_idle s computing])
  | some n =>
    rw [completionEffect_computing s computing]
    exact (takeGrants_regoverned (s.published n) _ _).congr rfl rfl

/-- R61: the part with its allocation running and the period timer started. -/
def State.started (s : State) : State :=
  { s with alloc := { s.alloc with state := .running, period := some ⟨s.tables.t8.period, s.now⟩ } }

theorem startEffect_eq : startEffect s = trackerStart (initialiseLimits s.started) := rfl

theorem startEffect_regoverned : Regoverned s (startEffect s) := (initialiseLimits_regoverned s.started).congr rfl rfl

theorem getD_keeps {α : Type} {ok : α → Prop} {l : List α} {d : α} (h : ok d) (all : ∀ a ∈ l, ok a) (i : Nat) :
    ok (l.getD i d) := by
  rw [List.getD_eq_getElem?_getD]
  cases found : l[i]? with
  | none => exact h
  | some a => exact all a (List.mem_of_getElem? found)

/-- R67, R78 to R80: trip setpoints and maxima lie in the range of a limit. -/
theorem governing_bounded {x : Tables} (ok : x.plantOk) (k : Nat) :
    (x.governing k).trip ≤ 1000000 ∧ (x.governing k).maximum ≤ 1000000 := by
  obtain ⟨t4, t5, t6, t7⟩ := ok
  unfold Tables.governing
  split
  · have stands : (x.t4.getD k BoilerSetting.zero).inRange := getD_keeps (.inl rfl) t4 k
    rcases stands with zero | range
    · simp only [zero]; decide
    · dsimp only; omega
  · split
    · have stands : (x.t5.getD (k - 6) TurbineSetting.zero).inRange := getD_keeps (.inl rfl) t5 _
      rcases stands with zero | range
      · simp only [zero]; decide
      · dsimp only; omega
    · split
      · have stands : (x.t6.getD (k - 8) ExchangerSetting.zero).inRange := getD_keeps (.inl rfl) t6 _
        rcases stands with zero | range
        · simp only [zero]; decide
        · dsimp only; omega
      · rcases t7 with zero | range
        · simp only [zero]; decide
        · dsimp only; omega

end limits

end Sys2Proof.Machine
end

section
/-! The laws of the line and the limits: no move lets a governed DEMAND exceed its limit, or a limit leave its range. -/

namespace Sys2Proof.Machine

variable {parts : List Part} {s t : State}

/-! ## What a departure does to the grant records -/

section departing

variable (s) {f : List Byte}

theorem bounded_iff : (∀ r ∈ s.governor.grants, r.bounded) ↔ ∀ k, (s.grant k).bounded := by
  refine ⟨fun all k => getD_keeps ⟨by decide, by decide⟩ all k, fun each r m => ?_⟩
  obtain ⟨k, low, rfl⟩ := List.mem_iff_getElem.mp m
  have stands := each k
  rwa [State.grant, List.getD_eq_getElem _ _ low] at stands

/-- R102 to R105: a departing DEMAND moves no limit. -/
theorem governDemand_limits (usable : Bool) (k : Nat) :
    ((governDemand s f usable).2.grant k).limit = (s.grant k).limit ∧
    ((governDemand s f usable).2.grant k).pending = (s.grant k).pending := by
  have kept : ∀ (i : Nat) (g : GrantRecord → GrantRecord), (∀ r, (g r).limit = r.limit) → (∀ r, (g r).pending = r.pending) →
      ((s.setGrant i g).grant k).limit = (s.grant k).limit ∧ ((s.setGrant i g).grant k).pending = (s.grant k).pending :=
    fun i g limit pending => ⟨State.grant_setGrant_kept (part := (·.limit)) i k limit,
      State.grant_setGrant_kept (part := (·.pending)) i k pending⟩
  unfold governDemand
  split
  · exact ⟨rfl, rfl⟩
  · dsimp only
    split
    · split <;> exact kept _ _ (fun _ => rfl) fun _ => rfl
    · split
      · exact kept _ _ (fun _ => rfl) fun _ => rfl
      · exact ⟨rfl, rfl⟩

theorem governDemand_length (usable : Bool) :
    (governDemand s f usable).2.governor.grants.length = s.governor.grants.length := by
  unfold governDemand
  split
  · rfl
  · dsimp only
    split <;> split <;> simp [recordRequest]

/-- R102, R105, R113: a DEMAND puts a record on the line only when it is governed, and then carries no more than the
record's limit. -/
theorem governDemand_line {usable : Bool} (size : sizeOk f = true) (demand : frameKind f = 2)
    (layout : usable = true → layoutOk s.pins.station f = true) (bounded : ∀ k, (s.grant k).bounded) :
    (governDemand s f usable).2.governor.onLine = s.governor.onLine ∨
    ∃ k, (governDemand s f usable).2.governor.onLine = some k ∧ 0 ≤ demandSetpoint (governDemand s f usable).1 ∧
      demandSetpoint (governDemand s f usable).1 ≤ ((s.grant k).limit : Int) := by
  cases addressed : governedRecord s f with
  | none => exact .inl (by rw [governDemand_unaddressed _ addressed])
  | some k =>
    have low := (bounded k).1
    by_cases governed : governs s k = true
    · refine .inr ⟨k, ?_⟩
      cases usable with
      | true =>
        have mode : (s.tables.governing k).mode ≠ .pass := fun pass => (governs_iff k).mp governed (.inr pass)
        have range : 0 ≤ s.passedSetpoint k f ∧ s.passedSetpoint k f ≤ (s.grant k).limit := governedSetpoint_range mode _ _
        have consistent : demandConsistent f = true := layoutOk_demand demand s.pins.station ▸ layout rfl
        rw [governDemand_usable_governed addressed governed]
        dsimp only
        rw [demandSetpoint_governed _ size consistent (by omega) (by omega)]
        exact ⟨rfl, range⟩
      | false =>
        obtain ⟨tags, before, flags, few, tagged, rebuilt⟩ := heldDemand_rebuilt s.pins.station (s.grant k).limit size
        rw [governDemand_unusable_held addressed governed]
        dsimp only
        rw [rebuilt, demandSetpoint_rebuildDemand few tagged (by omega) (by omega)]
        exact ⟨rfl, by omega, le_rfl⟩
    · cases usable with
      | true => exact .inl (by rw [governDemand_usable_passed addressed governed]; rfl)
      | false => exact .inl (by rw [governDemand_unusable_passed addressed governed])

theorem departing_limits (x : TransitFrame) (k : Nat) : ((departing s x).2.grant k).limit = (s.grant k).limit ∧
    ((departing s x).2.grant k).pending = (s.grant k).pending := by
  unfold departing
  split
  · exact governDemand_limits s _ _
  · exact ⟨rfl, rfl⟩

theorem departing_length (x : TransitFrame) : (departing s x).2.governor.grants.length = s.governor.grants.length := by
  unfold departing
  split
  · exact governDemand_length s _
  · rfl

theorem departing_line {x : TransitFrame} (size : sizeOk x.bytes = true)
    (layout : x.usable = true → layoutOk s.pins.station x.bytes = true) (bounded : ∀ k, (s.grant k).bounded) :
    (departing s x).2.governor.onLine = s.governor.onLine ∨
    ∃ k, (departing s x).2.governor.onLine = some k ∧ 0 ≤ demandSetpoint (departing s x).1 ∧
      demandSetpoint (departing s x).1 ≤ ((s.grant k).limit : Int) := by
  unfold departing
  split
  · exact governDemand_line s size ‹_› layout bounded
  · exact .inl rfl

/-- R113: a record once its pending limit is in force. -/
def GrantRecord.settled (r : GrantRecord) : GrantRecord := { r with limit := r.current, pending := none }

theorem settleLine_grant (k : Nat) :
    (settleLine s).grant k = if s.governor.onLine = some k ∧ k < s.governor.grants.length then (s.grant k).settled
      else s.grant k := by
  unfold settleLine
  split
  · simp_all
  · rename_i j line
    simp only [State.grant, List.getD_eq_getElem?_getD, List.getElem?_modify, line, Option.some.injEq]
    by_cases same : j = k
    · subst same
      by_cases known : j < s.governor.grants.length
      · simp [known, GrantRecord.settled]
      · simp [known]
    · simp [same]

theorem settleLine_onLine : (settleLine s).governor.onLine = none := by
  unfold settleLine
  split
  · assumption
  · rfl

theorem settleLine_length : (settleLine s).governor.grants.length = s.governor.grants.length := by
  unfold settleLine
  split <;> simp

end departing

/-! ## The ways a move touches the line -/

theorem Regoverned.of_changes (c : Changes parts s t) (governor : .governor ∉ parts) : Regoverned s t :=
  .of_governor_eq (c.governor.resolve_left governor)

/-- R113: a move is a departure, a leaving or a reset, or leaves RING-OUT and what is on the line. -/
theorem move_line (m : Move parts s t) : (Regoverned s t ∧ t.port.ringOut = s.port.ringOut) ∨ t = departTransit s ∨
    t = leaveTransit s ∨ t = departInserted s ∨ t = leaveInserted s ∨ t.governor = Governor.initial := by
  have frame := m.changes
  cases m with
  | input m =>
    have out : t.port.ringOut = s.port.ringOut := by
      have port : t.port = s.port := by cases m <;> exact frame.port.resolve_left (by decide)
      rw [port]
    refine .inl ⟨?_, out⟩
    cases m with
    | cause _ c => exact raiseCause_regoverned s c
    | service _ k v => exact serviceStatus_regoverned s k v
    | _ => exact .of_changes frame (by decide)
  | reset => exact .inr (.inr (.inr (.inr (.inr rfl))))
  | transitDeparts => exact .inr (.inl rfl)
  | transitLeaves => exact .inr (.inr (.inl rfl))
  | insertedDeparts => exact .inr (.inr (.inr (.inl rfl)))
  | insertedLeaves => exact .inr (.inr (.inr (.inr (.inl rfl))))
  | completion =>
    exact .inl ⟨completionEffect_regoverned s, congrArg Port.ringOut (frame.port.resolve_left (by decide))⟩
  | start => exact .inl ⟨startEffect_regoverned s, rfl⟩
  | count | clearStats | marks | joins | ownFrames | place | placePoll =>
    exact .inl ⟨.of_changes frame (by decide), rfl⟩
  | _ =>
    exact .inl ⟨.of_changes frame (by decide), congrArg Port.ringOut (frame.port.resolve_left (by decide))⟩

/-! ## R113: pending limits and the record on the line -/

theorem lineLaw_of_none (line : s.governor.onLine = none) (pending : ∀ k, (s.grant k).pending = none) : lineLaw s :=
  ⟨fun k held => by simp [pending k] at held, fun on => by simp [line] at on⟩

/-- R113: with no transit frame on RING-OUT no record is on the line and none has a pending limit. -/
theorem line_free (h : lineLaw s) (idle : ∀ bytes, s.port.ringOut ≠ .transit bytes) :
    s.governor.onLine = none ∧ ∀ k, (s.grant k).pending = none := by
  obtain ⟨pending, sends⟩ := h
  have line : s.governor.onLine = none := by
    by_contra on
    obtain ⟨bytes, out⟩ := sends (Option.isSome_iff_ne_none.mpr on)
    exact idle bytes out
  refine ⟨line, fun k => ?_⟩
  by_contra held
  have on := pending k (Option.isSome_iff_ne_none.mpr held)
  rw [line] at on
  exact Option.some_ne_none _ on.symm

theorem ringOut_of_free (free : s.ringOutFree = true) : s.port.ringOut = .flags := by
  simp only [State.ringOutFree, Bool.and_eq_true, beq_iff_eq] at free
  exact free.1

/-- R10: RING-OUT is free, so no transit frame is on it. -/
theorem idle_of_free (free : s.ringOutFree = true) (bytes : List Byte) : s.port.ringOut ≠ .transit bytes := by
  rw [ringOut_of_free free]
  exact fun h => nomatch h

theorem idle_of_inserted {bytes : List Byte} {seq : Byte} (sent : s.port.ringOut = .inserted bytes seq)
    (other : List Byte) : s.port.ringOut ≠ .transit other := by
  rw [sent]
  exact fun h => nomatch h

theorem lineLaw_regoverned (r : Regoverned s t) (out : t.port.ringOut = s.port.ringOut) (h : lineLaw s) : lineLaw t := by
  obtain ⟨pending, sends⟩ := h
  refine ⟨fun k held => ?_, fun on => by rw [out]; exact sends (r.line ▸ on)⟩
  rw [r.line]
  by_cases on : s.governor.onLine = some k
  · exact on
  · rw [(r.each k).free (by simpa using on)] at held
    exact pending k held

theorem move_lineLaw (m : Move parts s t) (h : lineLaw s) : lineLaw t := by
  rcases move_line m with ⟨r, out⟩ | rfl | rfl | rfl | rfl | reset
  · exact lineLaw_regoverned r out h
  · rcases departTransit_cases s with same | ⟨x, rest, -, free, e⟩
    · rwa [same]
    · obtain ⟨-, pending⟩ := line_free h (idle_of_free free)
      rw [e]
      refine ⟨fun k held => ?_, fun _ => ⟨_, rfl⟩⟩
      change ((departing s x).2.grant k).pending.isSome = true at held
      simp [(departing_limits s x k).2, pending k] at held
  · rcases leaveTransit_cases s with same | ⟨bytes, -, e⟩
    · rwa [same]
    · rw [e]
      refine lineLaw_of_none (settleLine_onLine s) fun k => ?_
      change ((settleLine s).grant k).pending = none
      rw [settleLine_grant]
      split
      · rfl
      · rename_i off
        by_contra held
        have on := h.1 k (Option.isSome_iff_ne_none.mpr held)
        have unknown : s.governor.grants.length ≤ k := Nat.le_of_not_lt fun known => off ⟨on, known⟩
        exact held (by rw [s.grant_unknown unknown]; rfl)
  · rcases departInserted_cases s with same | ⟨f, rest, -, free, -, -, e⟩
    · rwa [same]
    · obtain ⟨line, pending⟩ := line_free h (idle_of_free free)
      rw [e]
      exact lineLaw_of_none line pending
  · rcases leaveInserted_cases s with same | ⟨bytes, seq, f, rest, sent, -, -, -⟩
    · rwa [same]
    · obtain ⟨line, pending⟩ := line_free h (idle_of_inserted sent)
      have governor := (leaveInserted_changes s).governor.resolve_left (by decide)
      exact lineLaw_of_none (by rw [governor, line]) fun k => by
        rw [show (leaveInserted s).grant k = s.grant k by simp only [State.grant, governor], pending k]
  · refine lineLaw_of_none (by rw [reset]; rfl) fun k => ?_
    rw [State.grant, reset]
    exact getD_keeps (ok := fun r : GrantRecord => r.pending = none) rfl (by simp [Governor.initial, GrantRecord.initial]) k

/-! ## R98: the limits -/

theorem takeSnapshot_plant (x tol period : Nat) (s : State) :
    let n := takeSnapshot x tol period s
    n.t4 = s.tables.t4 ∧ n.t5 = s.tables.t5 ∧ n.t6 = s.tables.t6 ∧ n.t7 = s.tables.t7 := ⟨rfl, rfl, rfl, rfl⟩

/-- R91, R99: no grant leaves the range of a limit. -/
theorem grantsOf_bounded {n : Snapshot} (plant : plantInRange n.t4 n.t5 n.t6 n.t7) (rho k : Nat) :
    (grantsOf (compute n rho)).getD k 0 ≤ 1000000 := by
  obtain ⟨length, boiler, turbine, exchanger, flare⟩ := Proofs.grantsWithinMaximum n rho plant
  obtain ⟨t4, t5, t6, t7⟩ := plant
  rcases Nat.lt_or_ge k 6 with low | high
  · have stands : (n.t4.getD k BoilerSetting.zero).inRange := getD_keeps (.inl rfl) t4 k
    refine (boiler k low).trans (stands.elim (fun zero => by rw [zero]; decide) fun range => range.2.2.2.2.1)
  · rcases Nat.lt_or_ge k 8 with low | high
    · obtain ⟨i, rfl⟩ := Nat.exists_eq_add_of_le high
      have stands : (n.t5.getD i TurbineSetting.zero).inRange := getD_keeps (.inl rfl) t5 i
      exact (turbine i (by omega)).trans (stands.elim (fun zero => by rw [zero]; decide) fun range => range.2.1)
    · rcases Nat.lt_or_ge k 12 with low | high
      · obtain ⟨x, rfl⟩ := Nat.exists_eq_add_of_le high
        have stands : (n.t6.getD x ExchangerSetting.zero).inRange := getD_keeps (.inl rfl) t6 x
        exact (exchanger x (by omega)).trans (stands.elim (fun zero => by rw [zero]; decide) fun range => range.2.1)
      · rcases Nat.eq_or_lt_of_le high with rfl | out
        · exact flare.trans (t7.elim (fun zero => by rw [zero]; decide) fun range => range.2.1)
        · rw [List.getD_eq_default _ _ (by rw [length]; omega)]
          exact Nat.zero_le _

theorem rampLimit_bounded {ramp period limit grant : Nat} (low : limit ≤ 1000000) (fits : grant ≤ 1000000) :
    rampLimit ramp period limit grant ≤ 1000000 := by
  unfold rampLimit
  split
  · exact fits
  · split <;> omega

theorem startLimit_bounded {g : Governing} (trip : g.trip ≤ 1000000) (top : g.maximum ≤ 1000000) (r : GrantRecord) :
    startLimit g r ≤ 1000000 := by
  unfold startLimit
  split
  · exact (limitTo_le _ _).trans top
  · exact trip

theorem takeGrants_bounded {grants : List Nat} (fits : ∀ k, grants.getD k 0 ≤ 1000000) (period : Nat) (s : State)
    (h : ∀ r ∈ s.governor.grants, r.bounded) : ∀ r ∈ (takeGrants grants period s).governor.grants, r.bounded := by
  refine onGrants_bounded s (fun k onLine r old => ?_) h
  have stored : ({ r with grant := grants.getD k 0 } : GrantRecord).bounded := old
  dsimp only
  split
  · exact GrantRecord.withLimit_bounded (rampLimit_bounded (GrantRecord.current_bounded old) (fits k)) onLine stored
  · exact stored

/-- The ranges hold once those of the parts that a move changes do. -/
theorem limitLaw_parts (c : Changes parts s t) (h : limitLaw s)
    (plant : .tables ∈ parts → t.tables.plantOk := by exact fun touched => absurd touched (by decide))
    (computing : .alloc ∈ parts → ∀ n, t.alloc.computing = some n → plantInRange n.t4 n.t5 n.t6 n.t7 := by
      exact fun touched => absurd touched (by decide))
    (grants : .governor ∈ parts → ∀ r ∈ t.governor.grants, r.bounded := by
      exact fun touched => absurd touched (by decide)) : limitLaw t := by
  obtain ⟨settings, snapshot, limits⟩ := h
  exact ⟨c.tables.elim plant fun same => by rw [same]; exact settings,
    c.alloc.elim computing fun same => by rw [same]; exact snapshot,
    c.governor.elim grants fun same => by rw [same]; exact limits⟩

theorem tripJump_bounded (plant : s.tables.plantOk) (h : ∀ r ∈ s.governor.grants, r.bounded) :
    ∀ r ∈ (tripJump s).governor.grants, r.bounded :=
  onGrants_bounded s (fun k onLine _ old => GrantRecord.withLimit_bounded (governing_bounded plant k).1 onLine old) h

theorem initialiseLimits_bounded (plant : s.tables.plantOk) (h : ∀ r ∈ s.governor.grants, r.bounded) :
    ∀ r ∈ (initialiseLimits s).governor.grants, r.bounded :=
  onGrants_bounded s (fun k onLine r old => GrantRecord.withLimit_bounded
    (startLimit_bounded (governing_bounded plant k).1 (governing_bounded plant k).2 r) onLine old) h

theorem limitLaw_atReset (pins : Pins) (probe : Option Nat) (out : Option LineOut) (now n : Nat) (pending : List Instr) :
    limitLaw (State.atReset pins probe out now n pending) := by
  refine ⟨⟨?_, ?_, ?_, .inl rfl⟩, (fun n gone => nomatch gone), ?_⟩
  all_goals intro e m
  · exact .inl (List.eq_of_mem_replicate m)
  · exact .inl (List.eq_of_mem_replicate m)
  · exact .inl (List.eq_of_mem_replicate m)
  · rw [show e = GrantRecord.initial from List.eq_of_mem_replicate m]
    decide

theorem move_limitLaw (m : Move parts s t) (h : limitLaw s) : limitLaw t := by
  have frame := m.changes
  obtain ⟨plant, snapshot, limits⟩ := id h
  cases m with
  | input m =>
    cases m with
    | cause _ c =>
      obtain ⟨state, alloc⟩ := raiseCause_alloc s c
      refine limitLaw_parts frame h (computing := fun _ => by rw [alloc]; exact snapshot) (grants := fun _ => ?_)
      rcases raiseCause_governor s c with same | jumped
      · rw [same]; exact limits
      · rw [jumped]; exact tripJump_bounded plant limits
    | service _ k v => exact limitLaw_parts frame h (grants := fun _ => serviceStatus_bounded s k v limits)
    | _ => exact limitLaw_parts frame h
  | reset => exact limitLaw_atReset _ _ _ _ _ _
  | transitDeparts =>
    rcases departTransit_cases s with same | ⟨x, rest, -, -, e⟩
    · rwa [same]
    · have kept := departing_limits s x
      refine limitLaw_parts frame h (grants := fun _ => ?_)
      rw [e]
      refine (bounded_iff (departing s x).2).mpr fun k => ?_
      have old := (bounded_iff s).mp limits k
      exact ⟨(kept k).1 ▸ old.1, (kept k).2 ▸ old.2⟩
  | transitLeaves =>
    rcases leaveTransit_cases s with same | ⟨bytes, -, e⟩
    · rwa [same]
    · refine limitLaw_parts frame h (grants := fun _ => ?_)
      rw [e]
      refine (bounded_iff (settleLine s)).mpr fun k => ?_
      have old := (bounded_iff s).mp limits k
      rw [settleLine_grant]
      split
      · exact ⟨GrantRecord.current_bounded old, fun p gone => nomatch gone⟩
      · exact old
  | countOrigin | settingsLoaded => exact h
  | openPeriod =>
    refine limitLaw_parts frame h (computing := fun _ n some => ?_)
    cases some
    exact plant
  | completion =>
    cases computing : s.alloc.computing with
    | none => rwa [completionEffect_idle s computing]
    | some n =>
      rw [completionEffect_computing s computing]
      exact ⟨plant, (fun _ gone => nomatch gone),
        takeGrants_bounded (grantsOf_bounded (snapshot n computing) _) _ (s.published n) limits⟩
  | start => exact ⟨plant, snapshot, initialiseLimits_bounded (s := s.started) plant limits⟩
  | stop => exact limitLaw_parts frame h (computing := fun _ n gone => nomatch gone)
  | resume =>
    refine limitLaw_parts frame h (computing := fun _ => ?_)
    unfold resumeEffect
    split <;> simpa using snapshot
  | roll => exact h
  | stations => exact h
  | settings _ f kept => exact limitLaw_parts frame h (plant := fun _ => kept.plant plant)
  | _ => exact limitLaw_parts frame h

/-! ## R5, R7: the transit queue -/

theorem transitLaw_congr (transit : t.port.transit ⊆ s.port.transit) (pins : t.pins = s.pins) (h : transitLaw s) :
    transitLaw t := by
  intro x m
  rw [pins]
  exact h x (transit m)

theorem transitLaw_frame (c : Changes parts s t) (port : .port ∉ parts) (pins : .pins ∉ parts) (h : transitLaw s) :
    transitLaw t :=
  transitLaw_congr (by rw [c.port.resolve_left port]; exact List.Subset.refl _) (c.pins.resolve_left pins) h

theorem move_transitLaw (m : Move parts s t) (h : transitLaw s) : transitLaw t := by
  have frame := m.changes
  cases m with
  | input m => cases m <;> exact transitLaw_frame frame (by decide) (by decide) h
  | reset => exact fun x none => by cases none
  | count | clearStats | marks | ownFrames | place | placePoll => exact h
  | joins _ x _ size layout =>
    intro y m
    rcases List.mem_append.mp m with old | new
    · exact h y old
    · rw [List.mem_singleton.mp new]
      exact ⟨size, layout⟩
  | transitDeparts =>
    refine transitLaw_congr ?_ (frame.pins.resolve_left (by decide)) h
    rcases departTransit_cases s with same | ⟨x, rest, -, -, e⟩
    · rw [same]; exact List.Subset.refl _
    · rw [e]; exact List.Subset.refl _
  | transitLeaves =>
    refine transitLaw_congr ?_ (frame.pins.resolve_left (by decide)) h
    rcases leaveTransit_cases s with same | ⟨bytes, -, e⟩
    · rw [same]; exact List.Subset.refl _
    · rw [e]; exact List.drop_subset 1 _
  | insertedDeparts =>
    rcases departInserted_cases s with same | ⟨f, rest, -, -, -, -, e⟩
    · rwa [same]
    · rw [e]; exact h
  | insertedLeaves =>
    refine transitLaw_congr ?_ (frame.pins.resolve_left (by decide)) h
    rcases leaveInserted_cases s with same | ⟨bytes, seq, f, rest, -, -, port, -⟩
    · rw [same]; exact List.Subset.refl _
    · rw [port]; exact List.Subset.refl _
  | _ => exact transitLaw_frame frame (by decide) (by decide) h

/-! ## R113: the setpoint on the line -/

theorem setpointLaw_of_none (line : s.governor.onLine = none) : setpointLaw s :=
  fun k _ on => by simp [line] at on

theorem setpointLaw_regoverned (r : Regoverned s t) (out : t.port.ringOut = s.port.ringOut) (h : setpointLaw s) :
    setpointLaw t := by
  intro k bytes on sent
  rw [r.line] at on
  rw [out] at sent
  rw [(r.each k).held (by simpa using on)]
  exact h k bytes on sent

/-- R98, R113: the laws of the line and of the limits, which a step keeps together. -/
def governedLaw (s : State) : Prop := lineLaw s ∧ limitLaw s ∧ transitLaw s ∧ setpointLaw s

theorem move_setpointLaw (m : Move parts s t) (h : governedLaw s) : setpointLaw t := by
  obtain ⟨line, limits, transit, setpoint⟩ := h
  rcases move_line m with ⟨r, out⟩ | rfl | rfl | rfl | rfl | reset
  · exact setpointLaw_regoverned r out setpoint
  · rcases departTransit_cases s with same | ⟨x, rest, oldest, free, e⟩
    · rwa [same]
    · obtain ⟨size, layout⟩ := transit x (by rw [oldest]; simp)
      rw [e]
      rcases departing_line s size layout ((bounded_iff s).mp limits.2.2) with none | ⟨k, on, low, high⟩
      · exact setpointLaw_of_none (none.trans (line_free line (idle_of_free free)).1)
      · intro j bytes onLine sent
        have same : j = k := Option.some.inj (onLine.symm.trans on)
        subst same
        cases sent
        have kept : ((departing s x).2.grant j).limit = (s.grant j).limit := (departing_limits s x j).1
        exact ⟨low, high.trans_eq (congrArg Int.ofNat kept.symm)⟩
  · rcases leaveTransit_cases s with same | ⟨bytes, -, e⟩
    · rwa [same]
    · rw [e]; exact setpointLaw_of_none (settleLine_onLine s)
  · rcases departInserted_cases s with same | ⟨f, rest, -, free, -, -, e⟩
    · rwa [same]
    · rw [e]; exact setpointLaw_of_none (line_free line (idle_of_free free)).1
  · rcases leaveInserted_cases s with same | ⟨bytes, seq, f, rest, sent, -, -, -⟩
    · rwa [same]
    · refine setpointLaw_of_none ?_
      rw [(leaveInserted_changes s).governor.resolve_left (by decide)]
      exact (line_free line (idle_of_inserted sent)).1
  · exact setpointLaw_of_none (by rw [reset]; rfl)

theorem move_governedLaw (m : Move parts s t) (h : governedLaw s) : governedLaw t :=
  ⟨move_lineLaw m h.1, move_limitLaw m h.2.1, move_transitLaw m h.2.2.1, move_setpointLaw m h⟩

end Sys2Proof.Machine
end

section
/-! The shape of the state: no move changes the number of entries of a table, a record list or the counter set. -/

namespace Sys2Proof.Machine

variable {parts : List Part} {s t : State}

/-- The shape holds once that of the parts that a move changes does. -/
theorem shapeLaw_parts (c : Changes parts s t) (h : shapeLaw s) (grants : t.governor.grants.length = s.governor.grants.length)
    (stats : .port ∈ parts → t.port.stats.length = 13 := by exact fun touched => absurd touched (by decide))
    (records : .records ∈ parts → t.records.length = 31 := by exact fun touched => absurd touched (by decide))
    (holders : .holder ∈ parts → t.holder.holders.length = 2 := by exact fun touched => absurd touched (by decide))
    (accounts : .billing ∈ parts → t.billing.accounts.length = 96 := by exact fun touched => absurd touched (by decide))
    (tables : .tables ∈ parts → TablesShape t.tables := by exact fun touched => absurd touched (by decide)) :
    shapeLaw t := by
  obtain ⟨oldStats, oldRecords, oldHolders, oldGrants, oldAccounts, t0, t1, t2, t3, t4, t5, t6, t9, t10, t11, t12⟩ := h
  have shape : TablesShape t.tables := c.tables.elim tables fun same => by
    rw [same]; exact ⟨t0, t1, t2, t3, t4, t5, t6, t9, t10, t11, t12⟩
  exact ⟨c.port.elim stats fun same => by rwa [same], c.records.elim records fun same => by rwa [same],
    c.holder.elim holders fun same => by rwa [same], grants.trans oldGrants,
    c.billing.elim accounts fun same => by rwa [same], shape.t0, shape.t1, shape.t2, shape.t3, shape.t4, shape.t5,
    shape.t6, shape.t9, shape.t10, shape.t11, shape.t12⟩

theorem shapeLaw_tables (h : shapeLaw s) : TablesShape s.tables := by
  obtain ⟨-, -, -, -, -, t0, t1, t2, t3, t4, t5, t6, t9, t10, t11, t12⟩ := h
  exact ⟨t0, t1, t2, t3, t4, t5, t6, t9, t10, t11, t12⟩

/-- R98: no move adds a grant record or takes one away. -/
theorem move_grants_length (m : Move parts s t) (h : s.governor.grants.length = 13) : t.governor.grants.length = 13 := by
  rcases move_line m with ⟨r, -⟩ | rfl | rfl | rfl | rfl | reset
  · rw [r.length, h]
  · rcases departTransit_cases s with same | ⟨x, rest, -, -, e⟩
    · rwa [same]
    · rw [e]; exact (departing_length s x).trans h
  · rcases leaveTransit_cases s with same | ⟨bytes, -, e⟩
    · rwa [same]
    · rw [e]; exact (settleLine_length s).trans h
  · rwa [(departInserted_changes s).governor.resolve_left (by decide)]
  · rwa [(leaveInserted_changes s).governor.resolve_left (by decide)]
  · rw [reset]; rfl

theorem State.count_stats_length (s : State) (c : Counter) : (s.count c).port.stats.length = s.port.stats.length := by
  simp [State.count]

theorem blowStatus_holders (v : Int) (s : State) : (blowStatus v s).holder.holders = s.holder.holders := by
  unfold blowStatus
  dsimp only
  split
  · split
    · split <;> rfl
    · rfl
    · rfl
  · split <;> rfl

theorem rollSchedule_shape (days : Nat) (shape : TablesShape s.tables) : TablesShape (rollSchedule days s).tables := by
  have schedule : (rollSchedule days s).tables.t9.length = 96 := by
    have old := shape.t9
    simp only [rollSchedule, List.length_append, List.length_replicate]
    split <;> simp [old]
  exact { shape with t9 := schedule }

theorem initial_shape : TablesShape Tables.initial := by
  constructor <;> simp [Tables.initial]

/-- R18: the counter set keeps its number of entries. -/
theorem move_stats_length (m : Move parts s t) (h : s.port.stats.length = 13) : t.port.stats.length = 13 := by
  have frame := m.changes
  cases m with
  | input m =>
    have port : t.port = s.port := by cases m <;> exact frame.port.resolve_left (by decide)
    rwa [port]
  | reset => rfl
  | count _ c => exact (s.count_stats_length c).trans h
  | clearStats => rfl
  | marks | joins | ownFrames | place | placePoll => exact h
  | transitDeparts =>
    rcases departTransit_cases s with same | ⟨x, rest, -, -, e⟩
    · rwa [same]
    · rwa [e]
  | transitLeaves =>
    rcases leaveTransit_cases s with same | ⟨bytes, -, e⟩
    · rwa [same]
    · rw [e]; exact (s.count_stats_length _).trans h
  | insertedDeparts =>
    rcases departInserted_cases s with same | ⟨f, rest, -, -, -, -, e⟩
    · rwa [same]
    · rwa [e]
  | insertedLeaves =>
    rcases leaveInserted_cases s with same | ⟨bytes, seq, f, rest, -, -, port, -⟩
    · rwa [same]
    · rw [port]; exact (s.count_stats_length _).trans h
  | _ => rwa [frame.port.resolve_left (by decide)]

theorem move_shapeLaw (m : Move parts s t) (h : shapeLaw s) : shapeLaw t := by
  have frame := m.changes
  have tables := shapeLaw_tables h
  obtain ⟨stats, records, holders, grants, accounts, -⟩ := id h
  have kept : t.governor.grants.length = s.governor.grants.length := (move_grants_length m grants).trans grants.symm
  have counters := move_stats_length m stats
  cases m with
  | input m =>
    cases m with
    | record => exact shapeLaw_parts frame h kept (records := fun _ => by simpa [State.setRecord] using records)
    | level => exact shapeLaw_parts frame h kept (holders := fun _ => by simpa using holders)
    | blow _ v => exact shapeLaw_parts frame h kept (holders := fun _ => by rw [blowStatus_holders, holders])
    | _ => exact shapeLaw_parts frame h kept
  | reset =>
    exact shapeLaw_parts frame h kept (fun _ => rfl) (fun _ => rfl) (fun _ => rfl) (fun _ => List.length_replicate)
      fun _ => initial_shape
  | blowLimit | tailEnds => exact shapeLaw_parts frame h kept (holders := fun _ => holders)
  | billing _ b number => exact shapeLaw_parts frame h kept (accounts := fun _ => number.trans accounts)
  | closes =>
    refine shapeLaw_parts frame h kept (accounts := fun _ => ?_)
    simp only [takeClose, foldl_appendBilling_billing, mapFrom_length, accounts]
  | roll _ days => exact shapeLaw_parts frame h kept (tables := fun _ => rollSchedule_shape days tables)
  | stations _ t0 shape => exact shapeLaw_parts frame h kept (tables := fun _ => { tables with t0 := shape tables })
  | settings _ f written => exact shapeLaw_parts frame h kept (tables := fun _ => written.shape tables)
  | count | clearStats | marks | joins | ownFrames | transitDeparts | transitLeaves | insertedDeparts | insertedLeaves |
    place | placePoll => exact shapeLaw_parts frame h kept (stats := fun _ => counters)
  | _ => exact shapeLaw_parts frame h kept

end Sys2Proof.Machine

namespace Sys2Proof.Proofs
open Sys2Proof.Machine

/-- Settles O58: three laws are kept on their own; the setpoint on the line is bounded at its departure by the limit in
force, and until it has left a new limit is only pending (`move_setpointLaw`). -/
theorem setpointLawKept : Obligations.SetpointLawKept := by
  intro s t stepped
  refine ⟨step_keeps (fun _ _ h => h) move_lineLaw stepped, step_keeps (fun _ _ h => h) move_limitLaw stepped,
    step_keeps (fun _ _ h => h) move_transitLaw stepped, fun line limits transit setpoint => ?_⟩
  obtain ⟨-, -, -, kept⟩ := step_keeps (law := governedLaw) (fun _ _ h => h) move_governedLaw stepped
    ⟨line, limits, transit, setpoint⟩
  exact kept

/-- Settles O60: one lemma per law, by the moves that touch the part it speaks of. -/
theorem blockStatesKept : Obligations.BlockStatesKept := by
  intro s t stepped
  exact ⟨step_keeps (fun _ _ h => h) move_blockLaw stepped, step_keeps (fun _ _ h => h) move_clockLaw stepped,
    step_keeps (fun _ _ h => h) move_windowLaw stepped, step_keeps (fun _ _ h => h) move_originLaw stepped,
    step_keeps (fun _ _ h => h) move_stationLaw stepped, step_keeps (fun _ _ h => h) move_shapeLaw stepped⟩

end Sys2Proof.Proofs
end

section
/-! The step, the resets and the part held in reset. -/

namespace Sys2Proof.Machine

section idle

variable {s : State}

theorem State.later_eq (s : State) (ms : Nat) : s.advanceTo (s.now + ms) = s.later ms := s.advanceTo_now_add ms

theorem idleChoice_nothing (nothing : readyCommands s = []) : idleChoice s = (none, s.later 1) := by
  simp only [idleChoice, nothing, State.later_eq]

/-- Log entry 21: with something ready, one of the ready commands is chosen, and at most the free choices move on. -/
theorem idleChoice_ready (ready : readyCommands s ≠ []) :
    ∃ c ∈ readyCommands s, ∃ n, idleChoice s = (some c, { s with freeCount := n }) := by
  unfold idleChoice
  split
  · exact absurd ‹_› ready
  · rename_i c one
    exact ⟨c, by simp [one], s.freeCount, rfl⟩
  · rename_i c more _ all
    have low : Config.tieBreak s.freeCount % (c :: more).length < (c :: more).length := Nat.mod_lt _ (by simp)
    refine ⟨_, ?_, _, rfl⟩
    rw [all, List.getD_eq_getElem _ _ low]
    exact List.getElem_mem low

theorem step_waiting {c : Instr} {rest : List Instr} (waits : s.pending = c :: rest) :
    step s = exec c { s with pending := rest } := by
  simp only [step, waits]

theorem step_chosen (empty : s.pending = []) {c : Instr} {t : State} (choice : idleChoice s = (some c, t)) :
    step s = exec c t := by
  simp only [step, empty, choice]

theorem step_unchosen (empty : s.pending = []) {t : State} (choice : idleChoice s = (none, t)) : step s = .next t := by
  simp only [step, empty, choice]

end idle

/-! ## The ends of a reset -/

theorem holdsPart_iff (straps : Byte) : holdsPart straps = true ↔ ¬ (straps ≠ 0 ∧ straps ≠ 255) := by
  simp only [holdsPart, Bool.or_eq_true, beq_iff_eq]
  tauto

section resets

variable {s : State} {straps : Byte} (out : Option LineOut)

theorem resetEnds_running (good : straps ≠ 0 ∧ straps ≠ 255) : resetEnds straps out s =
    State.atReset { straps := straps, station := straps, resetAsserted := false, strapHold := false }
      (some (s.now + 1000)) out s.now s.freeCount s.pending := by
  have free : holdsPart straps = false := by
    rw [← Bool.not_eq_true, holdsPart_iff, not_not]
    exact good
  simp only [resetEnds, free]
  rfl

theorem resetEnds_held (bad : ¬ (straps ≠ 0 ∧ straps ≠ 255)) : resetEnds straps out s =
    State.atReset { straps := straps, station := straps, resetAsserted := false, strapHold := true }
      none out s.now s.freeCount s.pending := by
  simp only [resetEnds, (holdsPart_iff straps).mpr bad, if_true]

end resets

/-! ## The laws at reset -/

theorem isStatusRecord_iff (r : Nat) : isStatusRecord r = true ↔ r = 8 ∨ (9 ≤ r ∧ r ≤ 14) ∨ r = 17 ∨ r = 18 ∨ r = 20 ∨
    r = 22 ∨ r = 24 ∨ r = 26 ∨ r = 29 ∨ r = 30 := by
  simp [isStatusRecord, or_assoc]

theorem quotaLaw_reset : quotaLaw State.reset := ⟨fun _ => Nat.zero_le _, rfl⟩

theorem lineLaw_reset : lineLaw State.reset := by
  refine lineLaw_of_none rfl fun k => ?_
  exact getD_keeps (ok := fun r : GrantRecord => r.pending = none) rfl
    (fun r m => by rw [List.eq_of_mem_replicate m]; rfl) k

theorem stationLaw_reset : stationLaw State.reset := by
  simp [stationLaw, State.bindings, State.reset, State.atReset, Tables.initial, mgmtCountOk, uniqueBindings, lockoutOk]

theorem shapeLaw_reset : shapeLaw State.reset := by
  have shape := initial_shape
  exact ⟨rfl, rfl, rfl, rfl, List.length_replicate, shape.t0, shape.t1, shape.t2, shape.t3, shape.t4, shape.t5, shape.t6,
    shape.t9, shape.t10, shape.t11, shape.t12⟩

theorem limitLaw_reset : limitLaw State.reset := limitLaw_atReset _ _ _ _ _ _

theorem transitLaw_reset : transitLaw State.reset := fun x m => by cases m

end Sys2Proof.Machine

namespace Sys2Proof.Proofs
open Sys2Proof.Machine

/-- Settles O1: the step's first branch. -/
theorem stepRunsFront : Obligations.StepRunsFront := fun _ _ _ waits => step_waiting waits

/-- Settles O2: the idle step runs what `idleChoice` gives, which is a ready command or a millisecond. -/
theorem idleStep : Obligations.IdleStep := by
  intro s empty
  refine ⟨fun idle => step_unchosen empty (idleChoice_nothing idle), fun ready => ?_⟩
  obtain ⟨c, mem, n, choice⟩ := idleChoice_ready ready
  exact ⟨c, mem, n, step_chosen empty choice⟩

/-- Settles O3: every command is a run of moves, and no move touches the queue (`exec_run`, `Run.pending`). -/
theorem everyCommandCompletes : Obligations.EveryCommandCompletes := by
  refine ⟨fun c s => ?_, fun s => ?_⟩
  · obtain ⟨t, done, run⟩ := exec_run c s
    exact ⟨t, done, run.pending⟩
  · obtain ⟨t, rest, done, -⟩ := step_run s
    exact ⟨t, done⟩

/-- Settles O4: each part's reset values as written out, and each law by what it asks of empty queues, zero limits and
entries that stand for no setting. -/
theorem resetValues : Obligations.ResetValues := by
  refine ⟨fun pins probe out now n pending => ?_, ?_⟩
  · refine ⟨rfl, ?_, rfl, rfl, rfl, rfl, rfl, rfl, rfl, rfl, rfl, rfl⟩
    change Tables.initial = _
    simp only [Tables.initial, isStatusRecord_iff]
    rfl
  · intro s
    refine ⟨?port, quotaLaw_reset, ?capacity, ?trip, ?cause, ?block, lineLaw_reset, sweepLaw_of_none rfl, ?clock, ?window,
      ?origin, stationLaw_reset, shapeLaw_reset, limitLaw_reset, transitLaw_reset, setpointLaw_of_none rfl⟩
    case port => unfold portLaw; decide
    case capacity => unfold capacityLaw; decide
    case trip => unfold tripLaw; decide
    case cause => unfold causeLaw; decide
    case block => unfold blockLaw; decide
    case clock => unfold clockLaw; decide
    case window => unfold windowLaw; decide
    case origin => unfold originLaw; decide

/-- Settles O5: each of the four ends by its guard, then by whether the straps name a station. -/
theorem resetsEnd : Obligations.ResetsEnd := by
  intro s straps pins running held good
  refine ⟨fun free => ?_, fun asserted => ?_, fun strapped free => ?_, fun released stage flags => ?_⟩
  · have ends : exec (.powerOnReset straps) s = .next (resetEnds straps none s) := congrArg _ (if_neg (by simp [free]))
    exact ⟨fun ok => by rw [ends, resetEnds_running none ok], fun bad => by rw [ends, resetEnds_held none bad]⟩
  · have ends : exec (.resetInputReleased straps) s = .next (resetEnds straps s.port.lastOut s) := congrArg _ (if_pos asserted)
    exact ⟨fun ok => by rw [ends, resetEnds_running _ ok], fun bad => by rw [ends, resetEnds_held _ bad]⟩
  · refine ⟨fun ok => ?_, fun bad => ?_⟩
    · have reads : holdsPart straps = false := by
        rw [← Bool.not_eq_true, holdsPart_iff, not_not]
        exact ok
      exact (congrArg _ (if_pos ⟨strapped, free, reads⟩)).trans (by rw [resetEnds_running _ ok])
    · exact congrArg _ (if_neg fun ready => by simp [(holdsPart_iff straps).mpr bad] at ready)
  · have due : resetDue s = true := by simp [resetDue, released, stage, flags]
    have ends : exec (.resetRequestEffect straps) s = .next (resetEnds straps s.port.lastOut s) := congrArg _ (if_pos due)
    exact ⟨fun ok => by rw [ends, resetEnds_running _ ok], fun bad => by rw [ends, resetEnds_held _ bad]⟩

/-- Settles O6: the asserted input by its definition; a command of a held part by `act_held`; the first line after a reset
by `receive_unopened`. -/
theorem heldPart : Obligations.HeldPart := by
  intro s
  refine ⟨⟨_, rfl, rfl, rfl, rfl, fun bytes sent => ?_, fun bytes seq sent => ?_, fun flags => ?_⟩,
    fun held => ⟨fun ms line => ?_, fun c notPower notAsserted notReleased notStraps notLine => ?_⟩,
    fun released unopened ms line => ?_⟩
  · change abortedOut s = _
    simp only [abortedOut, sent]
  · change abortedOut s = _
    simp only [abortedOut, sent]
  · change abortedOut s = _
    simp only [abortedOut, flags]
  · change act (s.advanceTo (s.now + ms)) _ = _
    rw [State.later_eq]
    exact act_held (s := s.later ms) held _
  · cases c with
    | powerOnReset x => exact absurd rfl (notPower x)
    | resetInputAsserted => exact absurd rfl notAsserted
    | resetInputReleased x => exact absurd rfl (notReleased x)
    | strapsValid x => exact absurd rfl (notStraps x)
    | frameReceived ms line => exact absurd rfl (notLine ms line)
    | resetRequestEffect straps => exact congrArg _ (if_neg (by simp [resetDue, held]))
    | _ => exact act_held held _
  · change act (s.advanceTo (s.now + ms)) _ = _
    rw [State.later_eq, act_running (s := s.later ms) released, receive_unopened (s := s.later ms) unopened]
    rfl

end Sys2Proof.Proofs
end

section
/-! The ring line: what is stuffed is read back, and the frame the part builds. -/

namespace Sys2Proof.Machine

/-! ## Stuffing (R2) -/

section stuffing

variable {b : Byte} (c : Byte) (l : List Byte)

theorem stuff_special (special : b = flagByte ∨ b = escapeByte) :
    stuff (b :: l) = escapeByte :: (b ^^^ 0x20) :: stuff l := if_pos special

theorem stuff_plain (plain : ¬ (b = flagByte ∨ b = escapeByte)) : stuff (b :: l) = b :: stuff l := if_neg plain

theorem unstuff_escaped : unstuff (escapeByte :: c :: l) = (unstuff l).map fun bs => (c ^^^ 0x20) :: bs := if_pos rfl

theorem unstuff_plain (plain : b ≠ escapeByte) : unstuff (b :: l) = (unstuff l).map fun bs => b :: bs := by
  cases l with
  | nil => exact if_neg plain
  | cons c l => exact if_neg plain

theorem stuff_eq_flatMap : stuff l = l.flatMap fun b => if b = 0xA5 ∨ b = 0xA6 then [0xA6, b ^^^ 0x20] else [b] := by
  induction l with
  | nil => rfl
  | cons b l ih =>
    rw [List.flatMap_cons, ← ih]
    by_cases special : b = flagByte ∨ b = escapeByte
    · rw [if_pos (show b = 0xA5 ∨ b = 0xA6 from special)]
      exact stuff_special l special
    · rw [if_neg (show ¬ (b = 0xA5 ∨ b = 0xA6) from special)]
      exact stuff_plain l special

/-- R2: neither an escape nor what follows one is the flag. -/
theorem flag_notMem_stuff : flagByte ∉ stuff l := by
  induction l with
  | nil => exact List.not_mem_nil
  | cons b l ih =>
    by_cases special : b = flagByte ∨ b = escapeByte
    · have follows : flagByte ≠ b ^^^ 0x20 := by
        rcases special with rfl | rfl <;> decide
      rw [stuff_special l special]
      exact List.not_mem_cons_of_ne_of_not_mem (by decide) (List.not_mem_cons_of_ne_of_not_mem follows ih)
    · rw [stuff_plain l special]
      exact List.not_mem_cons_of_ne_of_not_mem (fun same => special (.inl same.symm)) ih

theorem unstuff_stuff : unstuff (stuff l) = some l := by
  induction l with
  | nil => rfl
  | cons b l ih =>
    by_cases special : b = flagByte ∨ b = escapeByte
    · rw [stuff_special l special, unstuff_escaped, ih, Option.map_some, BitVec.xor_assoc, BitVec.xor_self, BitVec.xor_zero]
    · rw [stuff_plain l special, unstuff_plain _ fun same => special (.inr same), ih, Option.map_some]

/-- R2: an escape right before the flag leaves no frame. -/
theorem unstuff_stuff_escape : unstuff (stuff l ++ [escapeByte]) = none := by
  induction l with
  | nil => rfl
  | cons b l ih =>
    by_cases special : b = flagByte ∨ b = escapeByte
    · rw [stuff_special l special, List.cons_append, List.cons_append, unstuff_escaped, ih, Option.map_none]
    · rw [stuff_plain l special, List.cons_append, unstuff_plain _ fun same => special (.inr same), ih, Option.map_none]

/-- R1: a line without a flag is unstuffed whole. -/
theorem lineEnd_of_noFlag {line : List Byte} (noFlag : flagByte ∉ line) (filled : line ≠ []) :
    lineEnd line = match unstuff line with
      | none => .aborted
      | some f => .frame f := by
  have whole : line.takeWhile (fun b => b != flagByte) = line := by
    rw [List.takeWhile_eq_self_iff]
    exact fun b m => by simpa using fun same : b = flagByte => noFlag (same ▸ m)
  unfold lineEnd
  rw [whole]
  cases line with
  | nil => exact absurd rfl filled
  | cons b bs => rfl

theorem stuff_ne_nil {l : List Byte} (filled : l ≠ []) : stuff l ≠ [] := by
  cases l with
  | nil => exact absurd rfl filled
  | cons b l =>
    unfold stuff
    split <;> exact List.cons_ne_nil _ _

end stuffing

/-! ## The check (R3) -/

theorem check_append (bytes : List Byte) (b : Byte) : check (bytes ++ [b]) = checkByte (check bytes) b := by
  simp [check]

/-! ## A frame with no payload -/

section empty

variable (destination source : Byte) (kind tags : Nat) (seq spare : Byte)

/-- R3: header and header check alone. -/
theorem buildFrame_empty : buildFrame destination source kind tags seq spare [] =
    headerBytes destination source kind tags seq spare [] ++
      checkBytes (headerBytes destination source kind tags seq spare []) := by
  simp [buildFrame, headerBytes]

theorem frameLength_empty : frameLength (buildFrame destination source kind tags seq spare []) = 0 := rfl

theorem headerOk_empty : headerOk (buildFrame destination source kind tags seq spare []) = true := by
  have six : (headerBytes destination source kind tags seq spare []).length = 6 := rfl
  rw [headerOk, buildFrame_empty, List.take_left' six, List.drop_left' six,
    List.take_of_length_le (checkBytes_length _).le, beq_self_eq_true]

theorem sizeOk_empty (bound : source ≠ 0) : sizeOk (buildFrame destination source kind tags seq spare []) = true := by
  have size : (buildFrame destination source kind tags seq spare []).length = 8 := by
    rw [buildFrame_empty]
    simp [headerBytes]
  rw [← Bool.not_eq_false, sizeOk_eq_false_iff, frameLength_empty, frameSource_buildFrame, size]
  simp only [bound, or_false]
  omega

end empty

/-! ## Frames of other stations (R7 to R9) -/

section foreign

variable {s : State} {f : List Byte}

theorem payloadOk_iff : payloadOk f = true ↔
    frameLength f = 0 ∨ be 2 (check (framePayload f)).toNat = (f.drop (8 + frameLength f)).take 2 := by
  simp [payloadOk, checkBytes]

/-- R4, R7: the layout check, kind by kind. -/
theorem layoutOk_iff (station : Byte) : layoutOk station f = true ↔
    (frameKind f = 1 → frameTags f = 0 ∧ frameLength f % 6 = 0 ∧ 6 ≤ frameLength f ∧ frameLength f ≤ 120) ∧
    (frameKind f = 2 → frameTags f ≤ 3 ∧ frameLength f = 6 + 6 * frameTags f) ∧
    (frameKind f = 7 → frameTags f = 0 ∧ frameLength f = 7) ∧
    (frameKind f = 4 → frameDestination f = station → frameTags f = 0 ∧ 1 ≤ frameLength f) := by
  by_cases sample : frameKind f = 1
  · simp [layoutOk, kindSample, sample, and_assoc]
  by_cases demand : frameKind f = 2
  · simp [layoutOk_demand demand, demandConsistent_iff, demand]
  by_cases time : frameKind f = 7
  · simp [layoutOk, kindSample, kindDemand, kindTime, time]
  by_cases mgmt : frameKind f = 4
  · by_cases own : frameDestination f = station <;> simp [layoutOk, kindSample, kindDemand, kindTime, kindMgmt, mgmt, own]
  · simp [layoutOk, kindSample, kindDemand, kindTime, kindMgmt, sample, demand, time, mgmt]

theorem judgePayload_eq : judgePayload f s = (usableFrame s f, payloadCounted f s) := by
  unfold judgePayload usableFrame payloadCounted
  by_cases payload : payloadOk f = true
  · by_cases layout : layoutOk s.pins.station f = true <;> simp [payload, layout]
  · simp [payload]

theorem payloadCounted_usable (usable : usableFrame s f = true) : payloadCounted f s = s := by
  simp only [usableFrame, Bool.and_eq_true] at usable
  simp [payloadCounted, usable]

theorem payloadCounted_transit : (payloadCounted f s).port.transit = s.port.transit := by
  unfold payloadCounted
  split
  · rfl
  · split <;> rfl

theorem usableFrame_later (ms : Nat) : usableFrame (s.later ms) f = usableFrame s f := rfl

/-- R8: a consumed frame is a request. -/
theorem takeForeign_consumed (consumed : consumedFrame s f) : takeForeign f s = takeRequest f s := by
  obtain ⟨usable, kind, own⟩ := consumed
  simp only [takeForeign, judgePayload_eq, usable, payloadCounted_usable usable]
  exact if_pos ⟨trivial, kind, own⟩

/-- R9: any other frame is accepted for forwarding. -/
theorem takeForeign_forwarded (forwarded : ¬ consumedFrame s f) :
    takeForeign f s = acceptFrame f (usableFrame s f) (payloadCounted f s) := by
  simp only [takeForeign, judgePayload_eq]
  exact if_neg forwarded

theorem acceptFrame_full (usable : Bool) (full : 4 ≤ s.port.transit.length) :
    acceptFrame f usable s = s.count .transitOverrun := if_neg (by unfold transitCapacity; omega)

theorem acceptFrame_room (usable : Bool) (room : s.port.transit.length < 4) :
    acceptFrame f usable s = if usable then offer f (withTransit f usable s) else withTransit f usable s := if_pos room

theorem offer_other (other : frameKind f ≠ 1 ∧ frameKind f ≠ 7) : offer f s = s := by
  simp [offer, kindSample, kindTime, other]

/-- R27: the content of a station that is not admitted is not used. -/
theorem offer_unadmitted (unadmitted : s.admitted (frameSource f) = none) : offer f s = s := by
  simp [offer, offerSample, offerTime, unadmitted]

theorem offer_sample {b : Binding} (sample : frameKind f = 1) (admitted : s.admitted (frameSource f) = some b) : offer f s =
    if b.role = .heatMeter ∧ frameDestination f = s.pins.station then
      meterReply (frameSource f) (frameSeq f) (sampleEntries (framePayload f))
        (takeSample (sampleEntries (framePayload f)) b.role b.index s)
    else takeSample (sampleEntries (framePayload f)) b.role b.index s := by
  simp only [offer, sample, kindSample, if_true, offerSample, admitted]

theorem offer_time {b : Binding} (time : frameKind f = 7) (admitted : s.admitted (frameSource f) = some b) :
    offer f s = if b.role = .clock then judgeTime (framePayload f) s else s := by
  simp [offer, time, kindSample, kindTime, offerTime, admitted]

/-- R30: no input record belongs to a heat meter. -/
theorem takeSample_meter (entries : List SampleEntry) (index : Nat) : takeSample entries .heatMeter index s = s := by
  have none : recordsOf .heatMeter index = [] := by
    refine List.filter_eq_nil_iff.mpr fun r m => ?_
    have apart : ∀ r ∈ List.range 31, (recordOwner r).1 ≠ .heatMeter := by decide
    simpa [Prod.ext_iff] using fun same : (recordOwner r).1 = .heatMeter => absurd same (apart r m)
  simp [takeSample, none]

/-- R6: what a well-formed frame of another station does. -/
theorem exec_foreignFrame {line : List Byte} (good : GoodFrame s line f) (foreign : frameSource f ≠ s.pins.station)
    (ms : Nat) : exec (.frameReceived ms line) s = .next (takeForeign f (s.later ms)) := by
  obtain ⟨released, opened, ended, size, header⟩ := good
  rw [exec_frameReceived_opened released opened, judgeLine_passed ended size header, State.later_pins, if_neg foreign]

end foreign

/-! ## The entries of a SAMPLE (R4) -/

theorem sampleEntriesOf_length (n : Nat) (payload : List Byte) : (sampleEntriesOf n payload).length = n := by
  induction n generalizing payload with
  | zero => rfl
  | succ n ih => simp [sampleEntriesOf, ih]

theorem sampleEntriesOf_getElem? {n i : Nat} (low : i < n) (payload : List Byte) : (sampleEntriesOf n payload)[i]? =
    some { channel := (payload.getD (6 * i) 0).toNat, quality := (payload.getD (6 * i + 1) 0).toNat
           value := toSigned 4 (unbe ((payload.drop (6 * i + 2)).take 4)) } := by
  induction n generalizing i payload with
  | zero => omega
  | succ n ih =>
    cases i with
    | zero => rfl
    | succ i =>
      rw [sampleEntriesOf, List.getElem?_cons_succ, ih (Nat.lt_of_succ_lt_succ low)]
      simp only [List.getD_eq_getElem?_getD, List.getElem?_drop, List.drop_drop]
      rw [show 6 + 6 * i = 6 * (i + 1) by ring, show 6 + (6 * i + 1) = 6 * (i + 1) + 1 by ring,
        show 6 + (6 * i + 2) = 6 * (i + 1) + 2 by ring]

/-- Four bytes of a list as a number. -/
theorem unbe_four {l : List Byte} {i : Nat} (long : i + 4 ≤ l.length) : unbe ((l.drop i).take 4) =
    (((l.getD i 0).toNat * 256 + (l.getD (i + 1) 0).toNat) * 256 + (l.getD (i + 2) 0).toNat) * 256 +
      (l.getD (i + 3) 0).toNat := by
  have four : (l.drop i).take 4 = [l.getD i 0, l.getD (i + 1) 0, l.getD (i + 2) 0, l.getD (i + 3) 0] := by
    refine List.ext_getElem (by simp; omega) fun j _ low => ?_
    have few : j < 4 := by simpa using low
    rw [List.getElem_take, List.getElem_drop, ← List.getD_eq_getElem l 0]
    interval_cases j <;> rfl
  rw [four]
  simp [unbe]

theorem toSigned_four {v : Nat} : toSigned 4 v = if v < 2147483648 then (v : Int) else (v : Int) - 4294967296 := by
  norm_num [toSigned]

/-! ## Admitted stations (R27) -/

section admitted

variable {s : State} {station : Byte}

theorem bindingOf_none (unbound : ∀ b ∈ s.bindings, b.station ≠ station) : s.bindingOf station = none := by
  simpa [State.bindingOf] using unbound

theorem bindingOf_some {b : Binding} (bound : b ∈ s.bindings) (own : b.station = station)
    (only : ∀ c ∈ s.bindings, c.station = station → c = b) : s.bindingOf station = some b := by
  unfold State.bindingOf
  cases found : s.bindings.find? (fun b => b.station == station) with
  | none => exact absurd own (by simpa using List.find?_eq_none.mp found b bound)
  | some c =>
    have same : c.station = station := by simpa using List.find?_some found
    rw [only c (List.mem_of_find?_eq_some found) same]

theorem admitted_unbound (unbound : ∀ b ∈ s.bindings, b.station ≠ station) : s.admitted station = none := by
  rw [State.admitted, bindingOf_none unbound, Option.filter_none]

theorem admitted_bound {b : Binding} (bound : b ∈ s.bindings) (own : b.station = station)
    (only : ∀ c ∈ s.bindings, c.station = station → c = b) :
    s.admitted station = if b.ignore = true then none else some b := by
  rw [State.admitted, bindingOf_some bound own only]
  cases ignored : b.ignore <;> simp [ignored]

end admitted

end Sys2Proof.Machine

namespace Sys2Proof.Proofs
open Sys2Proof.Machine

/-- Settles O7: stuffing and its inverse by induction on the bytes; the fields of a built frame by its layout. -/
theorem framesRoundTrip : Obligations.FramesRoundTrip := by
  refine ⟨stuff_eq_flatMap, ⟨rfl, check_append⟩, fun f filled => ?_, fun f => ?_, flag_notMem_stuff, ?_⟩
  · rw [lineEnd_of_noFlag (flag_notMem_stuff f) (stuff_ne_nil filled), unstuff_stuff]
  · rw [lineEnd_of_noFlag (by simpa using ⟨flag_notMem_stuff f, by decide⟩) (by simp), unstuff_stuff_escape]
  · intro d src seq spare kind tags payload bound known few short f
    by_cases filled : payload = []
    · subst filled
      exact ⟨sizeOk_empty _ _ _ _ _ _ bound, headerOk_empty _ _ _ _ _ _, rfl, rfl, rfl,
        frameKind_buildFrame _ _ _ _ _ _ known few, frameTags_buildFrame _ _ _ _ _ _ few, rfl, rfl, rfl⟩
    · exact ⟨sizeOk_buildFrame _ _ _ _ _ _ filled short bound, headerOk_buildFrame _ _ _ _ _ _ filled,
        payloadOk_buildFrame _ _ _ _ _ _ filled short, rfl, rfl, frameKind_buildFrame _ _ _ _ _ _ known few,
        frameTags_buildFrame _ _ _ _ _ _ few, rfl, rfl, framePayload_buildFrame _ _ _ _ _ _ filled short⟩

/-- Settles O10: the two checks byte by byte, then the three ways of a frame of another station. -/
theorem foreignFrameTaken : Obligations.ForeignFrameTaken := by
  refine ⟨?_, fun s ms line f good foreign => ⟨fun consumed => ?_, fun forwarded => ?_⟩⟩
  · intro s f kind tags len payload checked fits
    have payloads : payloadOk f = true ↔ checked := payloadOk_iff
    have layouts : layoutOk s.pins.station f = true ↔ fits := layoutOk_iff s.pins.station
    refine ⟨rfl, rfl, rfl, rfl, rfl, rfl, payloads, layouts, by rw [usableFrame, Bool.and_eq_true, payloads, layouts],
      fun bad => if_pos ?_, fun good bad => (if_neg ?_).trans (if_pos ?_), fun good fit => (if_neg ?_).trans (if_neg ?_)⟩
    all_goals simp only [← Bool.not_eq_true, payloads, layouts, not_not]
    all_goals assumption
  · have taken := exec_foreignFrame good foreign ms
    rw [takeForeign_consumed (s := s.later ms) consumed] at taken
    exact ⟨fun room => taken.trans (congrArg _ (if_pos room)),
      fun full => taken.trans (congrArg _ (if_neg (Nat.not_lt.mpr full)))⟩
  · have taken := exec_foreignFrame good foreign ms
    rw [takeForeign_forwarded (s := s.later ms) forwarded] at taken
    have queue : (payloadCounted f (s.later ms)).port.transit = s.port.transit := payloadCounted_transit
    refine ⟨fun full => ?_, fun room other => ?_⟩
    · rw [taken, acceptFrame_full _ (by rw [queue]; exact full)]
    · rw [taken, acceptFrame_room _ (by rw [queue]; exact room), usableFrame_later]
      split
      · rename_i usable
        rw [offer_other (other.resolve_left (by simp [usable]))]
      · rfl

/-- Settles O11: the entries by their positions, admission by the one binding of a station, and the offer by kind. -/
theorem contentOffered : Obligations.ContentOffered := by
  refine ⟨fun payload => ⟨sampleEntriesOf_length _ _, fun n low => ?_⟩, fun s station => ⟨admitted_unbound, ?_⟩,
    ?_⟩
  · have long : 6 * n + 2 + 4 ≤ payload.length := by omega
    dsimp only
    rw [sampleEntries, sampleEntriesOf_getElem? low, unbe_four long, toSigned_four]
    rfl
  · exact fun b bound own only => admitted_bound bound own only
  · intro s ms line f good foreign usable room joined entries
    have taken := exec_foreignFrame good foreign ms
    have offered : frameKind f = 1 ∨ frameKind f = 7 → exec (.frameReceived ms line) s = .next (offer f joined) := fun kind => by
      have forwarded : ¬ consumedFrame (s.later ms) f := by
        rintro ⟨-, mgmt, -⟩
        omega
      rw [taken, takeForeign_forwarded forwarded, usableFrame_later, usable, payloadCounted_usable (s := s.later ms) usable,
        acceptFrame_room _ (by simpa using room), if_pos rfl]
    refine ⟨fun kind unadmitted => ?_, fun b admitted => ⟨fun sample other => ?_, fun sample meter own => ?_,
      fun time clock => ?_, fun time other => ?_⟩⟩
    · rw [offered kind]
      exact congrArg _ (offer_unadmitted (s := joined) unadmitted)
    · rw [offered (.inl sample), offer_sample (s := joined) sample admitted]
      exact congrArg _ (if_neg fun both => other.elim (· both.1) (· both.2))
    · rw [offered (.inl sample), offer_sample (s := joined) sample admitted, meter, takeSample_meter]
      exact congrArg _ (if_pos ⟨rfl, own⟩)
    · rw [offered (.inr time), offer_time (s := joined) time admitted]
      exact congrArg _ (if_pos clock)
    · rw [offered (.inr time), offer_time (s := joined) time admitted]
      exact congrArg _ (if_neg other)

end Sys2Proof.Proofs
end

section
/-! RING-OUT and the port's timers: departures, leavings, the lap watch and the probe. -/

namespace Sys2Proof.Machine

/-! ## Transit frames -/

section transit

variable {s : State} {x : TransitFrame} {rest : List TransitFrame}

/-- R101: the grant record of a governed role and index. -/
theorem governedRecord_bound {f : List Byte} {b : Binding} (bound : b ∈ s.bindings) (own : b.station = frameDestination f)
    (only : ∀ c ∈ s.bindings, c.station = b.station → c = b) : governedRecord s f = grantIndex b.role b.index := by
  rw [governedRecord, bindingOf_some bound own (own ▸ only), Option.bind_some]

theorem governedRecord_unbound {f : List Byte} (unbound : ∀ b ∈ s.bindings, b.station ≠ frameDestination f) :
    governedRecord s f = none := by
  rw [governedRecord, bindingOf_none unbound, Option.bind_none]

theorem grantIndex_ungoverned {role : Role} (other : role ∉ [Role.boiler, .turbine, .exchanger, .flare]) (index : Nat) :
    grantIndex role index = none := by
  cases role with
  | boiler | turbine | exchanger | flare => simp at other
  | _ => rfl

/-- R10: the oldest transit frame departs. -/
theorem exec_transitFrameDeparts (ready : TransitReady s x rest) : exec .transitFrameDeparts s =
    .next { (departing s x).2 with port := { s.port with ringOut := .transit (departing s x).1 } } := by
  obtain ⟨released, free, stage, oldest⟩ := ready
  change act s departTransit = _
  rw [act_running released, departTransit_oldest s oldest (by simp [State.ringOutFree, free, stage])]

theorem departing_other (other : frameKind x.bytes ≠ 2) : departing s x = (x.bytes, s) := if_neg other

theorem departing_demand (demand : frameKind x.bytes = 2) : departing s x = governDemand s x.bytes x.usable := if_pos demand

theorem settleLine_none (line : s.governor.onLine = none) : settleLine s = s := by
  simp only [settleLine, line]

theorem settleLine_some {k : Nat} (line : s.governor.onLine = some k) : settleLine s = { s with governor :=
    { grants := s.governor.grants.modify k GrantRecord.settled, onLine := none } } := by
  simp only [settleLine, line]
  rfl

end transit

/-- R4: what 4 bytes carry is in range. -/
theorem demandSetpoint_range (f : List Byte) : -2147483648 ≤ demandSetpoint f ∧ demandSetpoint f ≤ 2147483647 := by
  have fits : unbe (((demandBody f).drop 2).take 4) < 256 ^ 4 :=
    (unbe_lt _).trans_le (Nat.pow_le_pow_right (by decide) (List.length_take_le _ _))
  rw [demandSetpoint, toSigned_four]
  split <;> omega

/-- R103: a changed DEMAND's tag. -/
theorem tagBytes_change (station : Byte) (s : State) (mode : GovMode) (f : List Byte) :
    tagBytes station (s.changeReason mode) (demandSetpoint f) =
      [station, BitVec.ofNat 8 (s.changeReason mode)] ++ setpointBytes (demandSetpoint f) := by
  have small : s.changeReason mode < 256 ^ 1 := by
    unfold State.changeReason
    split
    · decide
    · split <;> decide
  rw [tagBytes, field_eq small, signedField_four (demandSetpoint_range f)]
  simp [be]

/-! ## Inserted frames -/

section inserted

variable {s : State} {f : Inserted} {rest : List Inserted}

theorem isOwnSeq_iff_false (s : State) (seq : Byte) : s.isOwnSeq seq = false ↔ ¬ ∃ e ∈ s.port.ownSet, e.seq = seq := by
  rw [← Bool.not_eq_true, State.isOwnSeq_iff]

theorem mayStart_iff : mayStart f s = true ↔
    s.port.ownSet.length < 16 ∧ ∀ echo, f.echo = some echo → s.isOwnSeq echo = false := by
  rw [mayStart, Bool.and_eq_true, decide_eq_true_eq]
  cases echoed : f.echo <;> simp [ownCapacity]

/-- R10, R13: the oldest inserted frame departs once it may. -/
theorem exec_insertedFrameDeparts (ready : InsertedReady s f rest) : exec .insertedFrameDeparts s =
    .next (if mayStart f s = true then s.startsInserted f else s) := by
  obtain ⟨released, free, stage, noTransit, oldest⟩ := ready
  have ringOut : s.ringOutFree = true := by simp [State.ringOutFree, free, stage]
  change act s departInserted = _
  rw [act_running released, departInserted]
  split
  · rename_i empty
    exact absurd (oldest.symm.trans empty) (List.cons_ne_nil _ _)
  · rename_i front
    cases front.symm.trans oldest
    by_cases starts : mayStart f s = true
    · rw [if_pos starts]
      exact congrArg _ (if_pos ⟨ringOut, noTransit, starts⟩)
    · rw [if_neg starts]
      exact congrArg _ (if_neg fun ready => starts ready.2.2)

/-- R14: the oldest own frame has left. -/
theorem exec_insertedFrameLeft {bytes : List Byte} {seq : Byte} (released : s.outOfReset = true)
    (sent : s.port.ringOut = .inserted bytes seq) (oldest : s.port.insertion = f :: rest) : exec .insertedFrameLeft s =
    .next (
      let gone := s.insertedGone bytes seq rest
      let t := if f.quota = .poll then pollLeft seq gone else gone
      if f.endsPart then { t with mgmt := { t.mgmt with resetStage := .replyLeft } } else t) := by
  change act s leaveInserted = _
  rw [act_running released, leaveInserted_sent sent oldest]

theorem pollLeft_orphan {seq : Byte} {items : List (Option Nat)} (placed : s.sweep.placement = none :: items) :
    pollLeft seq s = { s with sweep := { s.sweep with placement := items } } := by
  simp only [pollLeft, placed]
  rfl

theorem pollLeft_account {seq : Byte} {a : Nat} {items : List (Option Nat)} (placed : s.sweep.placement = some a :: items) :
    pollLeft seq s = { s with sweep := { s.sweep with
      placement := items
      entries := s.sweep.entries.map fun e => if e.account = a then { e with phase := .away seq s.now } else e } } := by
  simp only [pollLeft, placed]
  rfl

end inserted

/-! ## The lap watch and the probe -/

section timers

variable {s : State}

theorem lapEffect_due {seq : Byte} {e : OwnFrame} {due : Nat}
    (found : s.port.ownSet.find? (fun x => x.seq == seq) = some e) (runs : e.lapDue = some due) :
    lapEffect seq s = missLap seq (s.advanceTo due) := by
  simp only [lapEffect, State.lapDueOf, found, Option.bind_some, runs]

/-- R15: the part once a lap is missed. -/
def State.lapMissed (s : State) (seq : Byte) : State :=
  { s with port := { (s.count .lapMiss).port with
    ownSet := s.port.ownSet.filter fun x => x.seq != seq, missCount := min 3 (s.port.missCount + 1) } }

theorem missLap_other {seq : Byte} (other : s.port.missCount ≠ 2) : missLap seq s = s.lapMissed seq :=
  if_neg (by unfold missLimit; omega)

/-- R15, R16: the third miss in succession opens the ring. -/
theorem missLap_third {seq : Byte} (third : s.port.missCount = 2) : missLap seq s =
    ({ s.lapMissed seq with port := { (s.lapMissed seq).port with ringState := .open } }).notice .ringOpen
      (((s.lapMissed seq).port.stats.getD 10 0 : Nat) : Int) :=
  if_pos (by rw [third]; rfl)

theorem freeSlot_probe_iff : s.freeSlot .probe = true ↔ ¬ ∃ f ∈ s.port.insertion, f.quota = .probe := by
  simp [State.freeSlot, Quota.slots, List.countP_eq_zero]

theorem probeEffect_due {due : Nat} (runs : s.port.probeDue = some due) : probeEffect s =
    let s1 := s.advanceTo due
    let s2 := if s1.freeSlot .probe then s1.place (probeFrame s1) else s1
    { s2 with port := { s2.port with probeDue := some (s1.now + probeTime) } } := by
  simp only [probeEffect, runs]

end timers

/-! ## The blow log -/

/-- R55: the log holds eight entries. -/
theorem pushCapped_eight {α : Type} {l : List α} (few : l.length ≤ 8) (a : α) :
    pushCapped 8 l a = (if l.length = 8 then l.drop 1 else l) ++ [a] := by
  unfold pushCapped
  by_cases full : l.length = 8
  · rw [if_pos full.ge, if_pos full]
  · rw [if_neg (by omega), if_neg full]

end Sys2Proof.Machine

namespace Sys2Proof.Proofs
open Sys2Proof.Machine

/-- Settles O16: the record by the one binding of the Destination; the frame by what `governDemand` returns where it does
not govern. -/
theorem transitDeparts : Obligations.TransitDeparts := by
  refine ⟨fun s f => ⟨governedRecord_unbound, fun b bound own only => ?_⟩, fun s x rest ready => ⟨fun other => ?_, ?_⟩⟩
  · rw [governedRecord_bound bound own only]
    refine ⟨fun role => ?_, fun role => ?_, fun role => ?_, fun role => ?_, fun other => grantIndex_ungoverned other _⟩
    all_goals rw [role]; rfl
  · have passes : departing s x = (x.bytes, s) := by
      by_cases demand : frameKind x.bytes = 2
      · rw [departing_demand demand, governDemand_unaddressed _ (other.resolve_left (not_not.mpr demand))]
      · exact departing_other demand
    rw [exec_transitFrameDeparts ready, passes]
  · intro k demand addressed passes v t
    have free : ¬ governs s k = true := fun governed => (governs_iff k).mp governed passes
    rw [exec_transitFrameDeparts ready, departing_demand demand]
    cases usable : x.usable with
    | true =>
      rw [governDemand_usable_passed addressed free]
      simp only [t, usable, if_true]
      rfl
    | false =>
      rw [governDemand_unusable_passed addressed free]
      simp only [t, usable, Bool.false_eq_true, if_false]

/-- Settles O17: the governed frame carries the governed setpoint, and a changed one is rebuilt, tagged or tag-full. -/
theorem demandGoverned : Obligations.DemandGoverned := by
  intro s x rest k g ready governed usable known size layout fits f v lim w reason channel flags
  obtain ⟨demand, addressed, settings, active, mode⟩ := governed
  subst settings
  have acts : governs s k = true := (governs_iff k).mpr (by simp [active, mode])
  have consistent : demandConsistent f = true := layoutOk_demand demand s.pins.station ▸ layout
  have passed : s.passedSetpoint k f = w := by
    cases governing : (s.tables.governing k).mode with
    | pass => exact absurd governing mode
    | clamp | replace => simp [State.passedSetpoint, governedSetpoint, w, governing, lim, v, f]
  have range : 0 ≤ w ∧ w ≤ lim := passed ▸ governedSetpoint_range mode _ _
  have low : -2147483648 ≤ w := by omega
  have high : w ≤ 2147483647 := by omega
  have departs := exec_transitFrameDeparts ready
  rw [departing_demand demand, usable, governDemand_usable_governed addressed acts, passed] at departs
  refine ⟨_, _, departs, rfl, demandSetpoint_governed _ size consistent low high, fun same => if_pos same, fun differs => ?_,
    ?_, ?_, rfl, fun j => ⟨State.grant_setGrant_kept (part := (·.limit)) k j fun _ => rfl,
      State.grant_setGrant_kept (part := (·.grant)) k j fun _ => rfl⟩, rfl⟩
  · obtain ⟨tags, before, channel', flags', few, tagged, rebuilt⟩ := changedDemand_rebuilt (s := s) (s.tables.governing k).mode w
      size consistent
    rw [if_neg differs]
    refine ⟨rebuilt ▸ sizeOk_rebuildDemand size few tagged, rebuilt ▸ headerOk_rebuildDemand,
      rebuilt ▸ payloadOk_rebuildDemand few tagged, rebuilt ▸ rfl, rebuilt ▸ rfl, rebuilt ▸ rfl, rebuilt ▸ rfl,
      rebuilt ▸ frameKind_rebuildDemand few _, fun room => ?_, fun full => ?_⟩
    · have before : (tagBytes s.pins.station (s.changeReason (s.tables.governing k).mode) v ++ demandTags f).length =
          6 * (frameTags f + 1) := by
        rw [List.length_append, tagBytes_length, demandTags_length size consistent]
        exact Nat.add_comm _ _
      rw [changedDemand_tagged _ _ room]
      refine ⟨frameTags_rebuildDemand room _, ?_⟩
      rw [framePayload_rebuildDemand room before, bodyBytes_eq _ _ low high, tagBytes_change]
      simp [reason, State.changeReason, reasonTripped, reasonReplaced, reasonClamped, v, channel, flags]
    · have few : frameTags f = 3 := by
        exact le_antisymm ((demandConsistent_iff f).mp consistent).1 full
      rw [changedDemand_tagFull _ _ (Nat.not_lt.mpr full)]
      refine ⟨frameTags_rebuildDemand le_rfl _, ?_⟩
      rw [framePayload_rebuildDemand le_rfl (few ▸ demandTags_length size consistent), bodyBytes_eq _ _ low high]
      simp [channel, flags]
  · exact congrArg GrantRecord.lastRequest (State.grant_setGrant_self known _)
  · exact congrArg GrantRecord.lastPassed (State.grant_setGrant_self known _)

/-- Settles O19: a frame that has left settles the record on the line. -/
theorem transitLeaves : Obligations.TransitLeaves := by
  intro s bytes released sent c port
  have left : exec .transitFrameLeft s = .next { settleLine s with port := port } := by
    change act s leaveTransit = _
    rw [act_running released, leaveTransit_sent s sent]
    rfl
  refine ⟨fun line => ?_, fun k line => ?_⟩
  · rw [left, settleLine_none line]
  · rw [left, settleLine_some line]
    rfl

/-- Settles O20: a frame departs exactly when it may start, with the echoed sequence or the first free one. -/
theorem insertedDeparts : Obligations.InsertedDeparts := by
  intro s f rest ready inSet departs
  have departed := exec_insertedFrameDeparts ready
  refine ⟨fun full => ?_, fun echo echoed own => ?_, fun echo room echoed free => ?_, fun room echoed => ?_⟩
  · rw [departed, if_neg fun starts => absurd (mayStart_iff.mp starts).1 (by omega)]
  · rw [departed, if_neg fun starts => ?_]
    exact (isOwnSeq_iff_false s echo).mp ((mayStart_iff.mp starts).2 echo echoed) own
  · have starts : mayStart f s = true := mayStart_iff.mpr ⟨room, fun seq same => by
      cases same.symm.trans echoed
      exact (isOwnSeq_iff_false s _).mpr free⟩
    have seq : departSeq f s = echo := by simp [departSeq, echoed]
    refine departed.trans ?_
    rw [if_pos starts]
    simp [State.startsInserted, insertedBytes, seq, echoed]
  · have starts : mayStart f s = true := mayStart_iff.mpr ⟨room, fun seq same => by simp [echoed] at same⟩
    obtain ⟨n, few, found, free, before⟩ := nextFreeSeq_free room s.port.seqCounter
    have seq : departSeq f s = s.port.seqCounter + BitVec.ofNat 8 n := by simp [departSeq, echoed, found]
    refine ⟨n, few, (isOwnSeq_iff_false s _).mp free, fun m low => (State.isOwnSeq_iff s _).mp (before m low), ?_⟩
    refine departed.trans ?_
    rw [if_pos starts]
    simp [State.startsInserted, insertedBytes, seq, echoed]

/-- Settles O21: what every own frame that has left starts, then its quota and whether it ends the part. -/
theorem insertedLeaves : Obligations.InsertedLeaves := by
  intro s bytes seq f rest released sent oldest c left
  have gone := exec_insertedFrameLeft released sent oldest
  refine ⟨fun other stays => ?_, fun other ends => ?_, fun items poll stays placed => ?_, fun a items poll stays placed => ?_⟩
  all_goals rw [gone]
  · simp only [other, stays, if_false, Bool.false_eq_true]
    rfl
  · simp only [other, ends, if_false, if_true]
    rfl
  · simp only [poll, stays, if_true, if_false, Bool.false_eq_true]
    rw [pollLeft_orphan (s := s.insertedGone bytes seq rest) placed]
    rfl
  · simp only [poll, stays, if_true, if_false, Bool.false_eq_true]
    rw [pollLeft_account (s := s.insertedGone bytes seq rest) placed]
    rfl

/-- Settles O22: the miss by whether it is the third, the probe by whether its slot is free. -/
theorem lapAndProbeTimers : Obligations.LapAndProbeTimers := by
  intro s released
  refine ⟨?_, ?_⟩
  · intro e due found runs c missed
    have expires : exec (.lapTimerExpiry e.seq) s = .next (missLap e.seq (s.advanceTo due)) := by
      change act s (lapEffect e.seq) = _
      rw [act_running released, lapEffect_due found runs]
    refine ⟨fun other => ?_, fun third => ?_⟩
    · rw [expires, missLap_other (s := s.advanceTo due) other]
      rfl
    · rw [expires, missLap_third (s := s.advanceTo due) third]
      rfl
  · intro due runs now probe waiting
    have expires : exec .probeTimerExpiry s = .next (probeEffect s) := act_running released _
    rw [probeEffect_due runs] at expires
    refine ⟨fun free => ?_, fun taken => ?_⟩
    · have slot : (s.advanceTo due).freeSlot .probe = true := freeSlot_probe_iff.mpr free
      rw [expires]
      simp only [slot, if_true]
      rfl
    · have slot : (s.advanceTo due).freeSlot .probe = false := by
        rw [← Bool.not_eq_true, freeSlot_probe_iff, not_not]
        exact taken
      rw [expires]
      simp only [slot, Bool.false_eq_true, if_false]
      rfl

/-- Settles O23: each expiry by its own branch. -/
theorem clockAndBlowTimers : Obligations.ClockAndBlowTimers := by
  intro s released
  refine ⟨fun due => ⟨fun counts => ?_, fun runs valid => ?_⟩, ?_, fun due tail runs => ?_⟩
  · have expires : exec .clockSecondCount s = .next (countSecond s) := act_running released _
    refine ⟨fun inDay => ?_, fun midnight => ?_⟩
    · rw [expires]
      simp only [countSecond, counts]
      exact congrArg _ (if_pos inDay)
    · rw [expires]
      simp only [countSecond, counts]
      exact congrArg _ ((if_neg (by change ¬ s.clock.seconds < 86399; omega)).trans rfl)
  · have expires : exec .adoptionIntervalExpiry s = .next (adoptionEffect s) := act_running released _
    rw [expires]
    simp only [adoptionEffect, runs, valid, if_true]
    rfl
  · intro t blowing limited few w entry
    have expires : exec .blowLimitExpiry s = .next (blowLimitEffect s) := act_running released _
    rw [expires, ← pushCapped_eight few]
    simp only [blowLimitEffect, limited, blowing, if_true]
    rfl
  · have expires : exec .tailExpiry s = .next (tailEffect s) := act_running released _
    rw [expires]
    simp only [tailEffect, runs, tail, if_true]
    rfl

end Sys2Proof.Proofs
end

section
/-! The Input Registry and the Holder Monitor: arrivals, ageing, what is handed on, and the bands. -/

namespace Sys2Proof.Machine

/-! ## Records -/

section records

variable (s : State)

theorem State.record_setRecord_self {r : Nat} (known : r < s.records.length) (f : InputRecord → InputRecord) :
    (s.setRecord r f).record r = f (s.record r) := by
  simp [State.record, known]

theorem State.record_setRecord_ne {r i : Nat} (apart : r ≠ i) (f : InputRecord → InputRecord) :
    (s.setRecord r f).record i = s.record i := by
  simp [State.record, apart]

theorem record_congr {s t : State} (records : t.records = s.records) (r : Nat) : t.record r = s.record r := by
  rw [State.record, State.record, records]

/-! ### The records of a station (R30, R32) -/

/-- R30: the records of a role and index, each with its channel. -/
def recordPlaces (role : Role) (index : Nat) : List (Nat × Nat) :=
  match role with
  | .gasSource => if index < 3 then [(2 * index, 1), (2 * index + 1, 2)] else []
  | .holder => if index < 2 then [(6 + index, 1)] else []
  | .converter => if index = 0 then [(8, 1)] else []
  | .boiler => if index < 6 then [(9 + index, 1)] else []
  | .recovery => if index < 2 then [(15 + index, 1)] else []
  | .turbine => if index < 2 then [(17 + index, 1)] else []
  | .exchanger => if index < 4 then [(19 + 2 * index, 1), (20 + 2 * index, 2)] else []
  | .grid => if index = 0 then [(27, 1), (28, 2), (29, 3)] else []
  | .safety => if index = 0 then [(30, 1)] else []
  | .flare | .clock | .heatMeter | .mgmtOperator | .mgmtEngineer | .mgmtBilling => []

theorem recordsOf_places_low (role : Role) {index : Nat} (low : index < 6) :
    (recordsOf role index).map (fun r => (r, recordChannel r)) = recordPlaces role index := by
  interval_cases index <;> cases role <;> decide

/-- R30: a role has at most six indices with records. -/
theorem recordsOf_high (role : Role) {index : Nat} (high : 6 ≤ index) : recordsOf role index = [] := by
  have few : ∀ r ∈ List.range 31, (recordOwner r).2 < 6 := by decide
  refine List.filter_eq_nil_iff.mpr fun r m same => ?_
  have owner : recordOwner r = (role, index) := by simpa using same
  have := few r m
  rw [owner] at this
  exact absurd this (by simpa using high)

theorem recordPlaces_high (role : Role) {index : Nat} (high : 6 ≤ index) : recordPlaces role index = [] := by
  cases role with
  | flare | clock | heatMeter | mgmtOperator | mgmtEngineer | mgmtBilling => rfl
  | _ => exact if_neg (by omega)

theorem recordsOf_places (role : Role) (index : Nat) :
    (recordsOf role index).map (fun r => (r, recordChannel r)) = recordPlaces role index := by
  rcases Nat.lt_or_ge index 6 with low | high
  · exact recordsOf_places_low role low
  · rw [recordsOf_high role high, recordPlaces_high role high, List.map_nil]

/-- R32: the last entry of a channel that counts, read from the back. -/
theorem lastOnChannel_eq (entries : List SampleEntry) (channel : Nat) : lastOnChannel entries channel =
    (entries.reverse.find? fun e => (e.quality == 0 || e.quality == 1) && e.channel == channel).map fun e => e.value := by
  rw [lastOnChannel, List.getLast?_eq_head?_reverse, ← List.filter_reverse, List.head?_filter]
  rfl

theorem takeSample_eq (entries : List SampleEntry) (role : Role) (index : Nat) : takeSample entries role index s =
    (recordPlaces role index).foldl
      (fun t p => match lastOnChannel entries p.2 with | some v => arrivalAt p.1 v t | none => t) s := by
  rw [← recordsOf_places, List.foldl_map]
  rfl

/-! ### Arrivals (R33, R34) -/

theorem arrivalAt_measurement {r : Nat} (measured : isStatusRecord r = false) (v : Int) :
    arrivalAt r v s = measurementArrival r v s := if_neg (by simp [measured])

theorem arrivalAt_status {r : Nat} (status : isStatusRecord r = true) (v : Int) :
    arrivalAt r v s = statusArrival r v s := if_pos status

theorem clampToRange_eq {e : InputSetting} (ordered : e.low ≤ e.high) (v : Int) : clampToRange e v =
    (max e.low (min v e.high), if v < e.low ∨ e.high < v then .clamped else .good) := by
  unfold clampToRange
  by_cases under : v < e.low
  · rw [if_pos under, if_pos (.inl under)]
    exact congrArg (·, _) (by omega)
  · by_cases above : e.high < v
    · rw [if_neg under, if_pos above, if_pos (.inr above)]
      exact congrArg (·, _) (by omega)
    · rw [if_neg under, if_neg above, if_neg (by omega)]
      exact congrArg (·, _) (by omega)

/-! ### Ageing (R35 to R38) -/

theorem isLevelRecord_iff (r : Nat) : isLevelRecord r = true ↔ r = 6 ∨ r = 7 := by simp [isLevelRecord]

theorem isStale_iff {r at_ : Nat} (arrived : (s.record r).arrival = some at_) :
    isStale s r = true ↔ (s.inputSetting r).staleness * 1000 < s.now - at_ := by
  simp only [isStale, arrived, decide_eq_true_eq]
  rfl

/-- R36, R37: a record that takes its substitute value. -/
def substituted (status : Bool) (sub : Int) (x : InputRecord) : InputRecord :=
  { x with value := sub, quality := .substituted
           candidate := if status then none else x.candidate, agreed := if status then false else x.agreed }

/-- R35: the substitution of a record, with the notice event of its way into SUBSTITUTED. -/
def State.toldSubstituted (s : State) (r : Nat) : State :=
  let taken := s.setRecord r (substituted (isStatusRecord r) (s.inputSetting r).substitute)
  if (s.record r).quality = .substituted then taken else taken.notice .inputSubstituted (r : Int)

theorem substitute_eq (r : Nat) : substitute r s =
    if r = 6 ∨ r = 7 then evaluateLevel (r - 6) (s.inputSetting r).substitute (s.toldSubstituted r)
    else if isStatusRecord r = true ∧ (s.record r).value ≠ (s.inputSetting r).substitute then
      handStatus r (s.inputSetting r).substitute (s.toldSubstituted r)
    else s.toldSubstituted r :=
  if_congr (isLevelRecord_iff r) rfl rfl

theorem substitute_records (r : Nat) : (substitute r s).records =
    s.records.modify r (substituted (isStatusRecord r) (s.inputSetting r).substitute) := by
  have told : (s.toldSubstituted r).records =
      s.records.modify r (substituted (isStatusRecord r) (s.inputSetting r).substitute) := by
    unfold State.toldSubstituted
    dsimp only
    split
    · rfl
    · exact State.notice_records _ _ _
  rw [substitute_eq, ← told]
  split
  · exact (evaluateLevel_changes _ _ _).records.resolve_left (by decide)
  · split
    · exact (handStatus_changes _ _ _).records.resolve_left (by decide)
    · rfl

theorem substitute_record {r : Nat} (known : r < s.records.length) : (substitute r s).record r =
    substituted (isStatusRecord r) (s.inputSetting r).substitute (s.record r) := by
  rw [State.record, substitute_records]
  exact s.record_setRecord_self known _

theorem judgeRecord_absent {start r : Nat} (absent : (s.record r).quality = .absent) :
    judgeRecord start s r = s ∧ judgeLevel s r = s := ⟨if_pos absent, if_pos absent⟩

theorem judgeRecord_stale {start r : Nat} (present : (s.record r).quality ≠ .absent) (stale : isStale s r = true) :
    judgeRecord start s r = substitute r s ∧ judgeLevel s r = substitute r s :=
  ⟨(if_neg present).trans (if_pos stale), (if_neg present).trans (if_pos stale)⟩

theorem judgeRecord_fresh {start r at_ : Nat} (present : (s.record r).quality ≠ .absent) (fresh : ¬ isStale s r = true)
    (arrived : (s.record r).arrival = some at_) : judgeLevel s r = s ∧ judgeRecord start s r =
      if at_ < start then s.setRecord r fun y => { y with quality := .held } else s := by
  refine ⟨(if_neg present).trans (if_neg fresh), (if_neg present).trans ((if_neg fresh).trans ?_)⟩
  simp only [arrived]

theorem judgeRecord_length (start r : Nat) : (judgeRecord start s r).records.length = s.records.length := by
  unfold judgeRecord
  split
  · rfl
  · split
    · rw [substitute_records, List.length_modify]
    · split
      · split
        · exact List.length_modify ..
        · rfl
      · rfl

/-- R36: the judgement of one record leaves the others alone. -/
theorem judgeRecord_other (start : Nat) {r i : Nat} (apart : r ≠ i) : (judgeRecord start s r).record i = s.record i := by
  by_cases absent : (s.record r).quality = .absent
  · rw [(judgeRecord_absent s absent).1]
  by_cases stale : isStale s r = true
  · rw [(judgeRecord_stale s absent stale).1]
    rw [State.record, substitute_records]
    exact s.record_setRecord_ne apart _
  cases arrived : (s.record r).arrival with
  | none =>
    have kept : judgeRecord start s r = s := (if_neg absent).trans ((if_neg stale).trans (by simp only [arrived]))
    rw [kept]
  | some at_ =>
    rw [(judgeRecord_fresh s absent stale arrived).2]
    split
    · exact s.record_setRecord_ne apart _
    · rfl

theorem foldl_judgeRecord_other (start : Nat) {l : List Nat} {i : Nat} (apart : i ∉ l) :
    (l.foldl (judgeRecord start) s).record i = s.record i := by
  induction l generalizing s with
  | nil => rfl
  | cons r l ih =>
    obtain ⟨first, rest⟩ := List.ne_and_not_mem_of_not_mem_cons apart
    rw [List.foldl_cons, ih _ rest, judgeRecord_other s start first.symm]

/-- R36: at a boundary a record is judged as it stood, whatever the judgement of those before it handed on. -/
theorem judgeAll_record (start : Nat) {r : Nat} (known : r < 31) :
    ∃ t : State, t.records.length = s.records.length ∧ t.record r = s.record r ∧ t.now = s.now ∧
      t.tables = s.tables ∧ (judgeAll start s).record r = (judgeRecord start t r).record r := by
  have distinct : (List.range 31).Nodup := List.nodup_range
  obtain ⟨before, after, split⟩ := List.append_of_mem (List.mem_range.mpr known)
  rw [split] at distinct
  obtain ⟨-, tail, apart⟩ := List.nodup_append.mp distinct
  obtain ⟨late, -⟩ := List.nodup_cons.mp tail
  have early : r ∉ before := fun m => apart r m r (by simp) rfl
  have changes : Changes inputParts s (before.foldl (judgeRecord start) s) :=
    Changes.foldl _ _ fun t i => judgeRecord_changes t start i
  have length : ∀ (l : List Nat) (u : State), (l.foldl (judgeRecord start) u).records.length = u.records.length := by
    intro l
    induction l with
    | nil => exact fun _ => rfl
    | cons i l ih => exact fun u => (ih _).trans (judgeRecord_length u start i)
  refine ⟨before.foldl (judgeRecord start) s, length _ _, foldl_judgeRecord_other s start early,
    changes.now.resolve_left (by decide), changes.tables.resolve_left (by decide), ?_⟩
  rw [judgeAll, split, List.foldl_append, List.foldl_cons, foldl_judgeRecord_other _ start late]

end records

/-! ## What is handed on (R35, R51 to R53, R108, R118, R119) -/

section handed

variable (s : State)

/-- R108: a service status of 0 sets one limit to 0. -/
theorem serviceStatus_zero (k : Nat) : serviceStatus k 0 s = { s with governor := { s.governor with
    grants := s.governor.grants.modify k (GrantRecord.withLimit (s.governor.onLine == some k) 0) } } := by
  have one : mapFrom (fun i r => if i = k then r.withLimit (s.governor.onLine == some i) 0 else r) 0 s.governor.grants =
      s.governor.grants.modify k (GrantRecord.withLimit (s.governor.onLine == some k) 0) := by
    refine List.ext_getElem? fun i => ?_
    rw [mapFrom_getElem?, List.getElem?_modify, Nat.zero_add]
    by_cases same : k = i
    · subst same
      cases s.governor.grants[k]? <;> simp
    · have other : ¬ i = k := fun h => same h.symm
      simp [same, other]
  rw [serviceStatus, if_pos rfl, State.onGrants, one]

theorem serviceStatus_one (k : Nat) : serviceStatus k 1 s = s := if_neg (by decide)

/-- R35, R98: the service statuses, each with the record of its station. -/
theorem handStatus_service {r k : Nat} (service : (9 ≤ r ∧ r ≤ 14 ∧ k = r - 9) ∨ (17 ≤ r ∧ r ≤ 18 ∧ k = r - 11) ∨
    ((r = 20 ∨ r = 22 ∨ r = 24 ∨ r = 26) ∧ k = 8 + (r - 20) / 2)) (v : Int) : handStatus r v s = serviceStatus k v s := by
  rcases service with ⟨low, high, rfl⟩ | ⟨low, high, rfl⟩ | ⟨one, rfl⟩
  · interval_cases r <;> rfl
  · interval_cases r <;> rfl
  · rcases one with rfl | rfl | rfl | rfl <;> rfl

theorem breakerStatus_island (island : s.latch.island = true) : breakerStatus 0 s = s := by
  simp [breakerStatus, island]

theorem breakerStatus_open (closed : s.latch.island = false) : breakerStatus 0 s = { s with
    latch := { s.latch with island := true }
    tracker := { s.tracker with block := if s.alloc.state = .stopped then s.tracker.block
                                 else s.tracker.block.map (fun b => { b with flags := { b.flags with island := true } }) } } := by
  simp only [breakerStatus, closed, if_true, Bool.false_eq_true, if_false]
  split <;> rfl

theorem blowStatus_starts (ready : s.holder.window.state = .tail ∨
    (s.holder.window.state = .idle ∧ s.holder.window.stuck = false)) : blowStatus 1 s = startBlow s := by
  rcases ready with tail | ⟨idle, free⟩
  · simp [blowStatus, tail]
  · simp [blowStatus, idle, free]

theorem blowStatus_goes_on (busy : s.holder.window.state = .blowing ∨
    (s.holder.window.state = .idle ∧ s.holder.window.stuck = true)) : blowStatus 1 s = s := by
  rcases busy with blowing | ⟨idle, stuck⟩
  · simp [blowStatus, blowing]
  · simp [blowStatus, idle, stuck]

theorem blowStatus_ends {b : BlowStart} (blowing : s.holder.window.state = .blowing) (start : s.holder.window.start = some b) :
    blowStatus 0 s = endBlow (s.secondsSince b.time) .normal s := by
  simp [blowStatus, blowing, start]

theorem blowStatus_rests (idle : s.holder.window.state = .idle) :
    blowStatus 0 s = { s with holder := { s.holder with window := { s.holder.window with stuck := false } } } := by
  unfold blowStatus
  dsimp only
  rw [if_neg (by decide)]
  split
  · rfl
  · rename_i blowing
    exact absurd (idle.symm.trans blowing) (by decide)
  · rename_i tail
    exact absurd (idle.symm.trans tail) (by decide)

theorem blowStatus_tail (tail : s.holder.window.state = .tail) : blowStatus 0 s = s := by
  simp [blowStatus, tail]

/-- R53: a blow that ends normally goes into its tail, or to IDLE with no post-blow time set. -/
theorem endBlow_normal {b : BlowStart} (start : s.holder.window.start = some b) (duration : Nat) :
    endBlow duration .normal s = { s with holder := { s.holder with
      log := pushCapped 8 s.holder.log
        { start := b.clock, duration := min 65535 duration
          interval := if s.holder.window.previousStart = none then none else s.holder.window.lastInterval
          ending := .normal }
      window := { s.holder.window with
        state := if (s.holderSetting 1).postBlow = 0 then .idle else .tail
        stuck := false, start := if (s.holderSetting 1).postBlow = 0 then none else some b, keptStart := some b.time
        limitTimer := none
        tailDue := if (s.holderSetting 1).postBlow = 0 then none
          else some (s.now + (s.holderSetting 1).postBlow * 1000) } } } := by
  by_cases post : (s.holderSetting 1).postBlow = 0 <;> simp [endBlow, logBlow, start, post, second]

end handed

/-! ## Bands (R47) -/

section bands

variable {e : HolderSetting} {level : Int}

/-- R47: a configured holder in a band moves down if a boundary is crossed downward, and else up. -/
theorem nextBand_known (configured : e.configured = true) {b : Band} (known : b ≠ .unknown) : nextBand e b level =
    if bandDown e level b = b then bandUp e level b else bandDown e level b := by
  cases b with
  | unknown => exact absurd rfl known
  | _ => simp only [nextBand, configured, if_true]

theorem nextBand_unknown (configured : e.configured = true) : nextBand e .unknown level = assignBand e level := by
  simp only [nextBand, configured, if_true]

theorem nextBand_normal (configured : e.configured = true) (lower : e.lowLow < e.low) :
    nextBand e .normal level = assignBand e level := by
  rw [nextBand_known configured (by decide)]
  unfold bandDown bandUp assignBand
  grind

end bands

end Sys2Proof.Machine
end

section
namespace Sys2Proof.Proofs
open Sys2Proof.Machine

/-- Settles O12: the records of a station by `recordsOf_places`; an arrival by the kind of its record. -/
theorem arrivalRules : Obligations.ArrivalRules := by
  refine ⟨?_, ?_⟩
  · intro s entries role index last places
    rw [takeSample_eq]
    simp only [lastOnChannel_eq]
    rfl
  · intro s r v value taken
    refine ⟨fun measured ordered => ?_, fun status => ⟨fun zero one => ?_, fun known agreed same => ?_,
      fun known other candidate => ?_, fun known other candidate => ?_⟩⟩
    · have clamped : measurementArrival r v s = if isLevelRecord r then
          judgeLevel (judgeLevel (evaluateLevel (r - 6) value taken) 6) 7 else taken := by
        unfold measurementArrival
        rw [clampToRange_eq ordered]
      rw [arrivalAt_measurement s measured, clamped]
      refine ⟨fun six seven => if_neg (by simp [isLevelRecord, six, seven]), fun h low level => ?_⟩
      rw [if_pos ((isLevelRecord_iff r).mpr (by omega)), show r - 6 = h by omega]
    all_goals rw [arrivalAt_status s status]
    · exact if_neg (by simp [zero, one])
    · exact (if_pos known).trans (if_pos ⟨agreed, same⟩)
    · refine (if_pos known).trans ((if_neg other).trans ((if_pos candidate).trans ?_))
      rfl
    · exact (if_pos known).trans ((if_neg other).trans (if_neg candidate))

/-- Settles O14: one record by its own judgement (`judgeAll_record`), its three outcomes by age and period. -/
theorem recordsJudged : Obligations.RecordsJudged := by
  refine ⟨?_, fun s start => rfl, fun s r => ⟨rfl, fun absent => if_pos absent, fun present => if_neg present⟩, ?_⟩
  · intro s start r shape low x y
    obtain ⟨t, length, same, now, tables, judged⟩ := judgeAll_record s start low
    have setting : t.inputSetting r = s.inputSetting r := by rw [State.inputSetting, State.inputSetting, tables]
    have known : r < t.records.length := by omega
    refine ⟨fun absent => ?_, fun at_ present arrived => ?_⟩
    · rw [show y = _ from judged, (judgeRecord_absent t (by rwa [same])).1, same]
    · have held : (t.record r).quality ≠ .absent := by rwa [same]
      have arrivedThen : (t.record r).arrival = some at_ := by rwa [same]
      have age : isStale t r = true ↔ (s.inputSetting r).staleness * 1000 < s.now - at_ := by
        rw [isStale_iff t arrivedThen, setting, now]
      refine ⟨fun stale => ?_, fun fresh old => ?_, fun fresh young => ?_⟩
      · have taken : y = substituted (isStatusRecord r) (s.inputSetting r).substitute x := by
          rw [show y = _ from judged, (judgeRecord_stale t held (age.mpr stale)).1, substitute_record t known, same, setting]
        rw [taken]
        exact ⟨rfl, rfl, arrived, fun status => by simp [substituted, status]⟩
      · rw [show y = _ from judged, (judgeRecord_fresh t held (fun stale => absurd (age.mp stale) (by omega)) arrivedThen).2,
          if_pos old, t.record_setRecord_self known, same]
      · rw [show y = _ from judged, (judgeRecord_fresh t held (fun stale => absurd (age.mp stale) (by omega)) arrivedThen).2,
          if_neg (by omega), same]
  · intro s start r x sub status taken told handed
    refine ⟨fun absent => judgeRecord_absent s absent, fun at_ present arrived => ⟨fun stale => ?_, fun fresh => ?_⟩⟩
    · obtain ⟨record, level⟩ := judgeRecord_stale s (start := start) present ((isStale_iff s arrived).mpr stale)
      have done : substitute r s = handed := substitute_eq s r
      exact ⟨record.trans done, level.trans done⟩
    · exact judgeRecord_fresh s present (fun stale => absurd ((isStale_iff s arrived).mp stale) (by omega)) arrived

/-- Settles O15: record 8 is the blow status, 29 the breaker, 30 the trip demand; the others are services. -/
theorem statusHandedOn : Obligations.StatusHandedOn := by
  intro s w withHolder previous maxBlow post clock
  refine ⟨fun ready => ?_, fun busy => ?_, fun idle => ?_, fun tail => ?_, ?_, fun island => ?_, fun closed => ?_, rfl, rfl, rfl,
    fun r k service => ⟨?_, ?_, ?_, ?_⟩⟩
  · exact (blowStatus_starts s ready).trans rfl
  · exact blowStatus_goes_on s busy
  · exact blowStatus_rests s idle
  · exact blowStatus_tail s tail
  · intro b blowing start few entry
    change blowStatus 0 s = _
    rw [blowStatus_ends s blowing start, ← pushCapped_eight few, endBlow_normal s start]
    rfl
  · exact breakerStatus_island s island
  · exact breakerStatus_open s closed
  · rw [handStatus_service s service, serviceStatus_one]
  all_goals rw [handStatus_service s service, serviceStatus_zero]
  · refine congrArg (fun f => s.governor.grants.modify k f) (funext fun g => ?_)
    simp [GrantRecord.withLimit]

/-- Settles O24: the bands by the boundaries crossed; a level by whether it changes the band. -/
theorem levelEvaluated : Obligations.LevelEvaluated := by
  refine ⟨fun e band level off => by simp [nextBand, off], ?_, ?_⟩
  · intro e level configured lower middle upper narrow hy assigned
    refine ⟨nextBand_unknown configured, nextBand_normal configured lower, ?_, ?_, ?_, ?_⟩
    all_goals rw [nextBand_known configured (by decide)]
    all_goals unfold bandDown bandUp
    · grind
    · grind
    · grind
    · grind
  · intro s h level low old new t told
    refine ⟨fun same => if_pos same, fun moved other => (if_neg moved).trans (if_neg other),
      fun moved lowLow => (if_neg moved).trans (if_pos lowLow)⟩

end Sys2Proof.Proofs
end

section
/-! Chapter 8: seconds accounted to the current block, the settlement record of a block that closes, and the works
clock's reports to the tracker. -/

namespace Sys2Proof.Machine

variable {s : State}

/-! ### Blocks -/

/-- R132: the current block with `n` more seconds at rate `e`. -/
def State.accounted (s : State) (e : Int) (n : Nat) (b : Block) : Block :=
  { b with
    delivered := b.delivered + e * (n : Int)
    elapsed := addElapsed b.elapsed n
    flags := if n = 0 then b.flags else s.accountingFlags b.flags }

theorem accountSeconds_current {b : Block} (e : Int) (n : Nat) (current : s.tracker.block = some b) :
    accountSeconds e n s = { s with tracker := { s.tracker with block := some (s.accounted e n b) } } := by
  rw [accountSeconds, State.onBlock, current]
  rfl

theorem State.markBlock_current {b : Block} (f : BlockFlags → BlockFlags) (current : s.tracker.block = some b) :
    s.markBlock f = { s with tracker := { s.tracker with block := some { b with flags := f b.flags } } } := by
  rw [State.markBlock, State.onBlock, current]
  rfl

/-- R133: the seconds of the period in progress that no block has yet. -/
theorem unattributed_running {p : Period} (period : s.alloc.period = some p) :
    unattributed s = (s.now - p.start) / 1000 - s.tracker.attributed := by
  simp only [unattributed, period, State.secondsSince, second]

theorem attributePart_current {b : Block} (current : s.tracker.block = some b) :
    attributePart s = { s with tracker := { s.tracker with
      block := some (s.accounted (s.recordValue 27) (unattributed s) b)
      attributed := s.tracker.attributed + unattributed s } } := by
  rw [attributePart, accountSeconds_current _ _ current]

theorem addElapsed_within {m n : Nat} (small : m + n ≤ 65535) : addElapsed m n = m + n := if_pos small

theorem State.accounted_clockFree (e : Int) {n : Nat} (b : Block) (some_ : 0 < n) :
    (s.accounted e n b).flags.clockFree = true ↔ b.flags.clockFree = true ∨ s.clock.state = .free := by
  simp [State.accounted, State.accountingFlags, Nat.pos_iff_ne_zero.mp some_]

theorem State.accounted_inputDegraded (e : Int) {n : Nat} (b : Block) (some_ : 0 < n) :
    (s.accounted e n b).flags.inputDegraded = true ↔ b.flags.inputDegraded = true ∨ s.gridDegraded = true := by
  simp [State.accounted, State.accountingFlags, Nat.pos_iff_ne_zero.mp some_]

theorem State.accounted_partialBlock (e : Int) (n : Nat) (b : Block) :
    (s.accounted e n b).flags.partialBlock = b.flags.partialBlock := by
  unfold State.accounted; split <;> rfl
theorem State.accounted_trip (e : Int) (n : Nat) (b : Block) : (s.accounted e n b).flags.trip = b.flags.trip := by
  unfold State.accounted; split <;> rfl
theorem State.accounted_island (e : Int) (n : Nat) (b : Block) : (s.accounted e n b).flags.island = b.flags.island := by
  unfold State.accounted; split <;> rfl
theorem State.accounted_clockStep (e : Int) (n : Nat) (b : Block) :
    (s.accounted e n b).flags.clockStep = b.flags.clockStep := by
  unfold State.accounted; split <;> rfl

/-! ### The settlement queue -/

/-- R137: what the next record tells of the records lost before it. -/
def State.lostNext (s : State) : Nat :=
  if 16 ≤ s.tracker.queue.length then saturating 255 s.tracker.pendingLoss 1 else s.tracker.pendingLoss

/-- The settlement queue after the close of `b`. -/
def State.settlements (s : State) (b : Block) : List Settlement :=
  pushCapped 16 s.tracker.queue (settle b s.tracker.nextNumber s.lostNext)

/-- A notice event is gathered whatever the tracker holds. -/
theorem State.tracked_notice (t : Tracker) (k : Notice) (v : Int) :
    ({ s with tracker := t } : State).notice k v = { s with tracker := t, mgmt := (s.notice k v).mgmt } := by
  rw [State.notice_eq, State.notice_mgmt_congr (s := s) (t := { s with tracker := t }) rfl rfl]

theorem appendSettlement_eq (b : Block) : appendSettlement b s =
    { s with
      tracker := { s.tracker with
        queue := s.settlements b, nextNumber := (s.tracker.nextNumber + 1) % 65536, pendingLoss := 0 }
      mgmt := (s.notice .settlementReady ((s.settlements b).length : Int)).mgmt } :=
  State.tracked_notice _ _ _

theorem State.settlements_room (b : Block) (room : s.tracker.queue.length < 16) :
    s.settlements b = s.tracker.queue ++ [settle b s.tracker.nextNumber s.tracker.pendingLoss] := by
  rw [State.settlements, pushCapped, if_neg (by omega), State.lostNext, if_neg (by omega)]

theorem appendSettlement_room (b : Block) (room : s.tracker.queue.length < 16) : appendSettlement b s = { s with
      tracker := { s.tracker with
        queue := s.tracker.queue ++ [settle b s.tracker.nextNumber s.tracker.pendingLoss]
        nextNumber := (s.tracker.nextNumber + 1) % 65536, pendingLoss := 0 }
      mgmt := (s.notice .settlementReady ((s.tracker.queue.length + 1 : Nat) : Int)).mgmt } := by
  rw [appendSettlement_eq, State.settlements_room b room, List.length_append]
  rfl

/-- R136: the current block closes with room in the queue. -/
theorem closeBlock_room {b : Block} (current : s.tracker.block = some b) (room : s.tracker.queue.length < 16) :
    closeBlock s = { s with
      tracker := { s.tracker with
        block := none
        queue := s.tracker.queue ++ [settle b s.tracker.nextNumber s.tracker.pendingLoss]
        nextNumber := (s.tracker.nextNumber + 1) % 65536, pendingLoss := 0 }
      mgmt := (s.notice .settlementReady ((s.tracker.queue.length + 1 : Nat) : Int)).mgmt } := by
  have closing : closeBlock s = appendSettlement b { s with tracker := { s.tracker with block := none } } := by
    simp only [closeBlock, current]
  have closed := appendSettlement_room (s := { s with tracker := { s.tracker with block := none } }) b room
  rw [State.tracked_notice] at closed
  exact closing.trans closed

/-- A close with the tracker changed before it. -/
theorem closeBlock_tracked {b : Block} (t : Tracker) (current : t.block = some b) (room : t.queue.length < 16) :
    closeBlock { s with tracker := t } = { s with
      tracker := { t with
        block := none
        queue := t.queue ++ [settle b t.nextNumber t.pendingLoss]
        nextNumber := (t.nextNumber + 1) % 65536, pendingLoss := 0 }
      mgmt := (s.notice .settlementReady ((t.queue.length + 1 : Nat) : Int)).mgmt } := by
  have closed := closeBlock_room (s := { s with tracker := t }) current room
  rw [State.tracked_notice] at closed
  exact closed

theorem settleClassOf_within (x : ExportEntry) (d : Int) (n : Nat) :
    settleClassOf (some x) d n = .within ↔ -(n : Int) ≤ d ∧ d ≤ n := by
  unfold settleClassOf
  grind

theorem settleClassOf_over (x : ExportEntry) (d : Int) (n : Nat) :
    settleClassOf (some x) d n = .over ↔ (n : Int) < d := by
  unfold settleClassOf
  grind

theorem settleClassOf_under (x : ExportEntry) (d : Int) (n : Nat) :
    settleClassOf (some x) d n = .under ↔ d < -(n : Int) := by
  unfold settleClassOf
  grind

/-! ### The tracker's own steps -/

/-- R133: the current block with the seconds of the period in progress that have run, and its marks. -/
def State.parted (s : State) (p : Period) (b : Block) (f : BlockFlags → BlockFlags) : Block :=
  let part := s.accounted (s.recordValue 27) ((s.now - p.start) / 1000 - s.tracker.attributed) b
  { part with flags := f part.flags }

theorem attributePart_marked {p : Period} {b : Block} (f : BlockFlags → BlockFlags)
    (period : s.alloc.period = some p) (current : s.tracker.block = some b) :
    (attributePart s).markBlock f = { s with tracker := { s.tracker with
      block := some (s.parted p b f)
      attributed := s.tracker.attributed + ((s.now - p.start) / 1000 - s.tracker.attributed) } } := by
  rw [attributePart_current current, unattributed_running period]
  rfl

/-- The tracker after a close of `b` with the part of the period `p` that has run. -/
def State.closed (s : State) (p : Period) (b : Block) (f : BlockFlags → BlockFlags) : Tracker :=
  { block := none
    attributed := s.tracker.attributed + ((s.now - p.start) / 1000 - s.tracker.attributed)
    pendingLoss := 0
    nextNumber := (s.tracker.nextNumber + 1) % 65536
    queue := s.tracker.queue ++ [settle (s.parted p b f) s.tracker.nextNumber s.tracker.pendingLoss] }

/-- R133, R136: the part of the period in progress that has run goes to the current block, which closes. -/
theorem closeBlock_parted {p : Period} {b : Block} (f : BlockFlags → BlockFlags)
    (period : s.alloc.period = some p) (current : s.tracker.block = some b) (room : s.tracker.queue.length < 16) :
    closeBlock ((attributePart s).markBlock f) = { s with
      tracker := s.closed p b f
      mgmt := (s.notice .settlementReady ((s.tracker.queue.length + 1 : Nat) : Int)).mgmt } := by
  rw [attributePart_marked f period current]
  exact closeBlock_tracked _ rfl room

/-- R131: the block the clock's time opens. -/
def State.opened (s : State) (elapsed : Nat) (flags : BlockFlags) : Block :=
  { index := s.clockBlock, day := s.clock.day, entry := s.tables.t9.getD s.clockBlock none, delivered := 0
    elapsed := elapsed, flags := s.openingFlags flags, handedTarget := 0, handedTolerance := 0 }

theorem openBlock_eq (elapsed : Nat) (flags : BlockFlags) :
    openBlock elapsed flags s = { s with tracker := { s.tracker with block := some (s.opened elapsed flags) } } := rfl

/-- R138: a clock step outside STOPPED. -/
theorem trackerClockStep_runs {p : Period} {b : Block} (runs : s.alloc.state ≠ .stopped)
    (period : s.alloc.period = some p) (current : s.tracker.block = some b) (room : s.tracker.queue.length < 16) :
    trackerClockStep s = { s with
      tracker := { s.closed p b (fun f => { f with partialBlock := true, clockStep := true }) with
        block := some (s.opened (s.clock.seconds - s.clockBlock * 1800)
          { BlockFlags.clear with partialBlock := true, clockStep := true }) }
      mgmt := (s.notice .settlementReady ((s.tracker.queue.length + 1 : Nat) : Int)).mgmt } := by
  rw [trackerClockStep, if_neg runs]
  dsimp only
  rw [closeBlock_parted _ period current room]
  rfl

/-- R139: a stop with room in the queue. -/
theorem trackerStop_runs {p : Period} {b : Block}
    (period : s.alloc.period = some p) (current : s.tracker.block = some b) (room : s.tracker.queue.length < 16) :
    trackerStop s = { s with
      tracker := s.closed p b fun f => { f with partialBlock := true }
      mgmt := (s.notice .settlementReady ((s.tracker.queue.length + 1 : Nat) : Int)).mgmt } :=
  closeBlock_parted _ period current room

/-- R132: a boundary in the block and day of the clock. -/
theorem accountBoundary_inside {b : Block} (ended : Nat) (current : s.tracker.block = some b)
    (inside : b.index = s.clockBlock ∧ b.day = s.clock.day) :
    accountBoundary ended s = { s with tracker := { s.tracker with
      attributed := 0, block := some (s.accounted (s.recordValue 27) (ended - s.tracker.attributed) b) } } := by
  simp only [accountBoundary, current, if_pos inside, accountSeconds_current _ _ current]

/-- R132: a boundary past the block of the clock closes it and opens the clock's. -/
theorem accountBoundary_past {b : Block} (ended : Nat) (current : s.tracker.block = some b)
    (past : ¬ (b.index = s.clockBlock ∧ b.day = s.clock.day)) (room : s.tracker.queue.length < 16) :
    let u := ended - s.tracker.attributed
    let new := min (s.clock.seconds - s.clockBlock * 1800) u
    (accountBoundary ended s).tracker = { s.tracker with
      attributed := 0
      block := some (s.accounted (s.recordValue 27) new (s.opened 0 BlockFlags.clear))
      queue := s.tracker.queue ++ [settle (s.accounted (s.recordValue 27) (u - new) b)
        s.tracker.nextNumber s.tracker.pendingLoss]
      pendingLoss := 0, nextNumber := (s.tracker.nextNumber + 1) % 65536 } := by
  intro u new
  have closed : closeBlock (accountSeconds (s.recordValue 27) (u - new) s) = _ :=
    (congrArg closeBlock (accountSeconds_current _ _ current)).trans (closeBlock_tracked _ rfl room)
  have split_ : accountBoundary ended s = { accountSeconds (s.recordValue 27) new (openBlock 0 BlockFlags.clear
      (closeBlock (accountSeconds (s.recordValue 27) (u - new) s))) with tracker :=
        { (accountSeconds (s.recordValue 27) new (openBlock 0 BlockFlags.clear
      (closeBlock (accountSeconds (s.recordValue 27) (u - new) s)))).tracker with attributed := 0 } } := by
    simp only [accountBoundary, current, if_neg past]
    rfl
  rw [split_, closed]
  rfl

end Sys2Proof.Machine
end

section
/-! The works clock judged by a TIME frame, and the settlement of a block that closes. -/

namespace Sys2Proof.Machine

variable {s : State}

/-! ### A TIME frame (R40, R41) -/

/-- R40: seconds, day and day type as a TIME frame carries them. -/
def timeBytes (seconds day code : Nat) : List Byte := be 4 seconds ++ be 2 day ++ be 1 code

theorem judgeTime_bytes {seconds day code : Nat} (h1 : seconds < 4294967296) (h2 : day < 65536) (h3 : code < 256) :
    judgeTime (timeBytes seconds day code) s = match dayTypeOfCode code with
      | some dayType =>
        if seconds ≤ 86399 ∧ adopts s.clock seconds day = true then adoptTime seconds day dayType s
        else s.notice .timeRejected (seconds : Int)
      | none => s.notice .timeRejected (seconds : Int) := by
  have first : (timeBytes seconds day code).take 4 = be 4 seconds := rfl
  have second_ : ((timeBytes seconds day code).drop 4).take 2 = be 2 day := rfl
  have third : ((timeBytes seconds day code).drop 6).take 1 = be 1 code := rfl
  have low1 : seconds < 256 ^ 4 := h1
  have low2 : day < 256 ^ 2 := h2
  have low3 : code < 256 ^ 1 := h3
  rw [judgeTime, first, second_, third, unbe_be, unbe_be, unbe_be, Nat.mod_eq_of_lt low1, Nat.mod_eq_of_lt low2,
    Nat.mod_eq_of_lt low3] <;> rfl

theorem laterDay_iff (old new : Nat) : laterDay old new = true ↔ 1 ≤ daysAhead old new ∧ daysAhead old new ≤ 32767 := by
  simp [laterDay]

theorem laterDay_same (day : Nat) : laterDay day day = false := by
  simp [laterDay, daysAhead]

theorem adopts_iff (c : Clock) (seconds day : Nat) : adopts c seconds day = true ↔ c.state = .invalid ∨
    (day = c.day ∧ c.seconds / 1800 * 1800 ≤ seconds) ∨ (day ≠ c.day ∧ laterDay c.day day = true) := by
  unfold adopts
  by_cases same : day = c.day
  · cases c.state <;> simp [same]
  · cases c.state <;> simp [same]

/-- R42: the part with the clock as an adoption at now sets it. -/
def State.adopted (s : State) (seconds day : Nat) (dayType : DayType) : State :=
  { s with clock :=
    { seconds := seconds, day := day, dayType := dayType, state := .valid
      nextCount := some (s.now + 1000), adoptionDue := some (s.now + 600000) } }

theorem adoptTime_alone {seconds day : Nat} (dayType : DayType)
    (within : s.clock.state = .invalid ∨ (day = s.clock.day ∧ seconds / 1800 ≤ s.clock.seconds / 1800)) :
    adoptTime seconds day dayType s = s.adopted seconds day dayType := by
  by_cases invalid : s.clock.state = .invalid
  · exact if_pos invalid
  · obtain ⟨same, early⟩ := within.resolve_left invalid
    have quiet : ¬ (laterDay s.clock.day day = true ∨ (day = s.clock.day ∧ s.clock.seconds / 1800 < seconds / 1800)) := by
      rw [same, laterDay_same]
      simp [early]
    have today : ¬ laterDay s.clock.day day = true := fun h => quiet (.inl h)
    exact (if_neg invalid).trans ((if_neg quiet).trans (if_neg today))

theorem adoptTime_block {seconds day : Nat} (dayType : DayType) (ticking : s.clock.state ≠ .invalid)
    (same : day = s.clock.day) (later : s.clock.seconds / 1800 < seconds / 1800) :
    adoptTime seconds day dayType s = trackerClockStep (s.adopted seconds day dayType) := by
  have today : ¬ laterDay s.clock.day day = true := by rw [same, laterDay_same]; decide
  exact (if_neg ticking).trans ((if_pos (.inr ⟨same, later⟩)).trans (congrArg trackerClockStep (if_neg today)))

theorem adoptTime_day {seconds day : Nat} (dayType : DayType) (ticking : s.clock.state ≠ .invalid)
    (later : laterDay s.clock.day day = true) : adoptTime seconds day dayType s =
      trackerClockStep (rollSchedule (daysAhead s.clock.day day) (s.adopted seconds day dayType)) :=
  (if_neg ticking).trans ((if_pos (.inl later)).trans (congrArg trackerClockStep (if_pos later)))

/-- R129: the roll of the schedule, entry by entry. -/
theorem rollSchedule_entry {n : Nat} (shape : s.tables.t9.length = 96) {j : Nat} (low : j < 96) :
    (rollSchedule n s).tables.t9.getD j none = if n = 1 ∧ j < 48 then s.tables.t9.getD (48 + j) none else none := by
  have blank : ∀ i, (List.replicate 48 (none : Option ExportEntry)).getD i none = none := fun i => by
    rw [List.getD_eq_getElem?_getD, List.getElem?_replicate]
    split <;> rfl
  have front : (if n = 1 then s.tables.t9.drop 48 else List.replicate 48 none).length = 48 := by
    split <;> simp [shape]
  rw [rollSchedule]
  by_cases first : j < 48
  · rw [List.getD_append _ _ _ _ (by rw [front]; exact first)]
    by_cases one : n = 1
    · simp [one, first, List.getD_eq_getElem?_getD]
    · rw [if_neg one, if_neg (fun h : n = 1 ∧ j < 48 => one h.1)]
      exact blank j
  · rw [List.getD_append_right _ _ _ _ (by rw [front]; omega), if_neg (fun h : n = 1 ∧ j < 48 => first h.2)]
    exact blank _

theorem rollSchedule_length {n : Nat} (shape : s.tables.t9.length = 96) :
    (rollSchedule n s).tables.t9.length = 96 := by
  unfold rollSchedule
  split <;> simp [shape]

/-! ### The marks of a block -/

theorem State.gridDegraded_iff : s.gridDegraded = true ↔ ∃ r, 27 ≤ r ∧ r ≤ 29 ∧
    ((s.record r).quality = .held ∨ (s.record r).quality = .substituted ∨ (s.record r).quality = .absent) := by
  have degraded_iff : ∀ q : Quality, q.degraded = true ↔ q = .held ∨ q = .substituted ∨ q = .absent := by
    intro q
    cases q <;> decide
  simp only [State.gridDegraded, Bool.or_eq_true, degraded_iff]
  constructor
  · rintro ((h | h) | h)
    · exact ⟨27, by omega, by omega, h⟩
    · exact ⟨28, by omega, by omega, h⟩
    · exact ⟨29, by omega, by omega, h⟩
  · rintro ⟨r, low, high, h⟩
    obtain rfl | rfl | rfl : r = 27 ∨ r = 28 ∨ r = 29 := by omega
    · exact .inl (.inl h)
    · exact .inl (.inr h)
    · exact .inr h

/-! ### The target handed over (R135) -/

section target

variable (corr period : Nat) {b : Block} {en : ExportEntry}

/-- R135: the rate that brings a block home on its contract. -/
def Block.wanted (b : Block) (en : ExportEntry) (period : Nat) : Int :=
  Int.tdiv ((en.target : Int) * 1800 - b.delivered) ((max (1800 - b.elapsed) period : Nat) : Int)

theorem exportTarget_scheduled (entry : b.entry = some en) : exportTarget corr period b =
    ((max 0 (max ((en.target : Int) - (corr : Int)) (min (b.wanted en period) ((en.target : Int) + (corr : Int))))).toNat,
      en.tolerance) := by
  simp only [exportTarget, entry]
  rfl

end target

end Sys2Proof.Machine

namespace Sys2Proof.Proofs
open Sys2Proof.Machine

/-- Settles O13: the checks of a TIME frame (`judgeTime_bytes`, `adopts_iff`), then the reach of the adoption. -/
theorem timeJudged : Obligations.TimeJudged := by
  refine ⟨?_, ?_, fun s stopped => trackerClockStep_stopped s stopped, ?_⟩
  · intro s sec day code h1 h2 h3 payload ahead later accepted
    have adopts' : adopts s.clock sec day = true ↔ accepted := by
      rw [adopts_iff, laterDay_iff]
      rfl
    have judged : judgeTime payload s = _ := judgeTime_bytes h1 h2 h3
    rw [judged]
    refine ⟨fun bad => ?_, fun dt type low ok => ?_⟩
    · cases type : dayTypeOfCode code with
      | none => rfl
      | some dt =>
        have listed : code ≤ 2 := by
          by_contra high
          obtain ⟨n, rfl⟩ : ∃ n, code = n + 3 := ⟨code - 3, by omega⟩
          exact nomatch type
        refine if_neg fun h => ?_
        rcases bad with late | unlisted | refused
        · omega
        · omega
        · exact refused (adopts'.mp h.2)
    · simp only [type]
      rw [if_pos ⟨low, adopts'.mpr ok⟩]
      refine ⟨fun within => adoptTime_alone dt within, fun ticking same over' => adoptTime_block dt ticking same over',
        fun ticking other => adoptTime_day dt ticking ?_⟩
      obtain ⟨-, ahead'⟩ := (ok.resolve_left ticking).resolve_left fun h => other h.1
      exact (laterDay_iff _ _).mpr ahead'
  · intro s n positive shape t
    exact ⟨rollSchedule_length shape, fun j low => rollSchedule_entry shape low, rfl⟩
  · intro s p b runs period current room a index opened t
    have stepped : t = _ := trackerClockStep_runs runs period current room
    rw [stepped]
    exact ⟨_, rfl, rfl, rfl, rfl, rfl, rfl, rfl, rfl, State.accounted_trip _ _ b, State.accounted_island _ _ b, rfl, rfl⟩

/-- Settles O36: the record of the block by `settle`, its place by `appendSettlement_eq`. -/
theorem settlementAppended : Obligations.SettlementAppended := by
  intro s b few t lost
  have appended : t = _ := appendSettlement_eq b
  have full : 16 ≤ s.tracker.queue.length ↔ s.tracker.queue.length = 16 := by omega
  have queue : s.settlements b = (if s.tracker.queue.length = 16 then s.tracker.queue.drop 1 else s.tracker.queue) ++
      [settle b s.tracker.nextNumber s.lostNext] := by
    simp only [State.settlements, pushCapped, full]
  have loss : s.lostNext = lost := by
    simp only [State.lostNext, full, saturating, lost]
  refine ⟨settle b s.tracker.nextNumber s.lostNext, by rw [appended, ← queue], rfl, loss, rfl, rfl, rfl, rfl, rfl,
    fun none => ?_, fun e entry => ?_, by rw [appended], by rw [appended]⟩
  · simp [settle, none, settleClassOf]
  · simp only [settle, entry, true_and]
    exact ⟨settleClassOf_within _ _ _, settleClassOf_over _ _ _, settleClassOf_under _ _ _⟩

/-- Settles O35: a boundary inside the block (`accountBoundary_inside`) and past it (`accountBoundary_past`), and the
rate a block wants, held within the correction limit. -/
theorem exportAccounted : Obligations.ExportAccounted := by
  refine ⟨?_, ?_⟩
  · intro s ended b current e u clockBlock free degraded
    refine ⟨fun index day positive small => ?_, fun past room small => ?_⟩
    · refine ⟨_, accountBoundary_inside ended current ⟨index, day⟩, rfl, addElapsed_within small, rfl, rfl, rfl,
        State.accounted_trip _ _ b, State.accounted_island _ _ b, State.accounted_partialBlock _ _ b,
        State.accounted_clockStep _ _ b, State.accounted_clockFree _ b positive, ?_⟩
      rw [State.accounted_inputDegraded _ b positive, State.gridDegraded_iff]
    · intro new
      have fits : new ≤ u := Nat.min_le_right _ _
      refine ⟨_, _, accountBoundary_past ended current past room, rfl, rfl, rfl, ?_, ?_, rfl, rfl, rfl, rfl⟩
      · exact zero_add _
      · exact (addElapsed_within (m := 0) (by omega)).trans (zero_add _)
  · intro corr period b positive
    refine ⟨fun none => by simp only [exportTarget, none], fun en entry => ?_⟩
    intro x remaining wanted
    have rate : b.wanted en period = wanted := by
      have rest : max (1800 - b.elapsed) period = remaining := by
        simp only [remaining]
        split <;> omega
      rw [Block.wanted, rest]
    have target : x = _ := congrArg Prod.fst (exportTarget_scheduled corr period entry)
    have tolerance := congrArg Prod.snd (exportTarget_scheduled corr period entry)
    rw [rate] at target
    dsimp only at target tolerance
    exact ⟨tolerance, by omega, by omega, fun _ _ => by omega, fun _ => by omega, fun _ => by omega, fun _ => by omega⟩

end Sys2Proof.Proofs
end

section
/-! A request served by its owner; the boundary, the completion, the start and the stop, the latch's requests. -/

namespace Sys2Proof.Machine

variable {s : State} {q : Request} {rest : List Request} {code : Nat} {operands : List Byte}

/-! ### A request in service -/

theorem Waiting.row (h : Waiting s q rest code operands) :
    commandOf q.payload = commandOf (BitVec.ofNat 8 code :: operands) := congrArg commandOf h.payload

theorem Waiting.may (h : Waiting s q rest code operands) {c : MgmtClass} (cls : s.classOf q.station = some c)
    (listed : (classesFor (BitVec.ofNat 8 code :: operands)).contains c = true) :
    permitted q.payload (s.classOf q.station) = true := by
  rw [cls, h.payload]
  exact listed

/-- R173: the answer of an owner that leaves the request queue alone. -/
theorem serve_answers (command : Instr) (owner : Request → List Byte → State → Answer)
    (h : Waiting s q rest code operands) (row : commandOf (BitVec.ofNat 8 code :: operands) = command)
    (known : command ≠ .badRequestCode) (noReset : command ≠ .reset) {c : MgmtClass}
    (cls : s.classOf q.station = some c) (listed : (classesFor (BitVec.ofNat 8 code :: operands)).contains c = true)
    (status : Status) (data : List Byte) (t : State)
    (answer : owner q operands (s.withRequests rest) = ⟨status, data, t.withRequests rest⟩) :
    act s (serve command owner) = .next (answered q rest code status.code data t) :=
  serve_owner h (h.row.trans row) known noReset (h.may cls listed) answer rfl

/-! ### What the request queue leaves alone -/

theorem State.withRequests_notice (k : Notice) (v : Int) :
    (s.withRequests rest).notice k v = (s.notice k v).withRequests rest := by
  unfold State.notice
  change (if s.tables.t14.takes k then _ else _) = _
  split <;> rfl

theorem withRequests_raiseCause (c : Cause) :
    raiseCause c (s.withRequests rest) = (raiseCause c s).withRequests rest := by
  by_cases known : s.hasCause c = true
  · rw [raiseCause_known s known, raiseCause_known (s.withRequests rest) known]
  · have told : (s.withRequests rest).causeTold c = (s.causeTold c).withRequests rest :=
      State.withRequests_notice (s := s.causeEntered c) _ _
    rw [raiseCause_new s known, raiseCause_new (s.withRequests rest) known, told]
    by_cases running : (s.causeTold c).alloc.state = .running
    · rw [tripIfRunning_running _ running, tripIfRunning_running ((s.causeTold c).withRequests rest) running]
      rfl
    · rw [tripIfRunning_idle _ running, tripIfRunning_idle ((s.causeTold c).withRequests rest) running]

theorem withRequests_resume : resumeEffect (s.withRequests rest) = (resumeEffect s).withRequests rest := by
  have told := State.withRequests_notice (rest := rest)
    (s := { s with latch := { s.latch with causes := [], firstCause := none } }) .resumed (setValue s.latch.causes : Int)
  change (if s.alloc.state = .tripped then _ else _) = State.withRequests (if s.alloc.state = .tripped then _ else _) rest
  split
  · exact congrArg (fun t : State => { t with alloc := { t.alloc with state := .running } }) told
  · exact told

/-! ### Bindings -/

theorem State.isBound_iff (role : Role) (index : Nat) :
    s.isBound role index = true ↔ ∃ b ∈ s.bindings, b.role = role ∧ b.index = index := by
  rw [State.isBound, stationAt, Option.isSome_map, bindingAt, List.find?_isSome]
  simp [State.bindings]

/-! ### Limits -/

/-- R113: a new limit of a record on the line is held, and of any other takes effect. -/
theorem State.grant_relimited {k : Nat} (known : k < s.governor.grants.length) (limit : Nat → GrantRecord → Nat) :
    (s.onGrants fun k onLine r => r.withLimit onLine (limit k r)).grant k =
      if s.governor.onLine = some k then { s.grant k with pending := some (limit k (s.grant k)) }
      else { s.grant k with limit := limit k (s.grant k) } := by
  rw [s.grant_onGrants known, GrantRecord.withLimit]
  simp only [beq_iff_eq]

/-- R107: one move of a limit toward its grant. -/
theorem rampLimit_straight (period limit grant : Nat) : rampLimit 0 period limit grant = grant := rfl

theorem rampLimit_up {ramp period limit grant : Nat} (ramped : ramp ≠ 0) (below : limit ≤ grant) :
    rampLimit ramp period limit grant = min grant (limit + ramp * period) :=
  (if_neg ramped).trans (if_pos below)

theorem rampLimit_down {ramp period limit grant : Nat} (ramped : ramp ≠ 0) (above : grant ≤ limit) :
    rampLimit ramp period limit grant = max grant (limit - ramp * period) := by
  unfold rampLimit
  rw [if_neg ramped]
  split <;> omega

/-! ### The boundary -/

/-- R117: the inputs leave the plant mode alone. -/
theorem InputChain.mode {s t : State} (c : InputChain s t) : t.latch.mode = s.latch.mode := by
  refine Chain.keeps (law := fun t => t.latch.mode = s.latch.mode) c (fun {parts a b} m h => ?_) rfl
  rw [← h]
  have frame := m.changes
  cases m with
  | cause =>
    rename_i c
    by_cases known : a.hasCause c = true
    · rw [raiseCause_known a known]
    · rw [raiseCause_latch a known]
      rfl
  | breaker v =>
    unfold breakerStatus
    split
    · split
      · rfl
      · split <;> rfl
    · rfl
  | _ => rw [frame.latch.resolve_left (by decide)]


theorem boundaryEffect_due {p : Period} (period : s.alloc.period = some p) (idle : s.alloc.computing = none) :
    boundaryEffect s = openPeriod (accountPeriod p (s.advanceTo (p.start + p.length * 1000))) := by
  simp only [boundaryEffect, period, idle, second]

theorem Role.inSnapshot_iff (r : Role) :
    r.inSnapshot = true ↔ r ∉ [Role.clock, .heatMeter, .mgmtOperator, .mgmtEngineer, .mgmtBilling] := by
  cases r <;> decide

theorem takeSnapshot_bound (x tol period : Nat) (role : Role) (index : Nat) :
    (role, index) ∈ (takeSnapshot x tol period s).bound ↔
      role ∉ [Role.clock, .heatMeter, .mgmtOperator, .mgmtEngineer, .mgmtBilling] ∧
        ∃ b ∈ s.bindings, b.role = role ∧ b.index = index := by
  rw [← Role.inSnapshot_iff]
  simp only [takeSnapshot, List.mem_map, List.mem_filter, Prod.mk.injEq]
  constructor
  · rintro ⟨b, ⟨mem, copied⟩, rfl, rfl⟩
    exact ⟨copied, b, mem, rfl, rfl⟩
  · rintro ⟨copied, b, mem, rfl, rfl⟩
    exact ⟨b, ⟨mem, copied⟩, rfl, rfl⟩

/-- R125: the part after a RESUME, its engine apart. -/
def State.resumed (s : State) : State :=
  ({ s with latch := { s.latch with causes := [], firstCause := none } } : State).notice .resumed
    (setValue s.latch.causes : Int)

theorem resumeEffect_eq : resumeEffect s = { s.resumed with alloc := { s.alloc with
    state := if s.alloc.state = .tripped then .running else s.alloc.state } } := by
  have alloc : s.resumed.alloc = s.alloc := State.notice_alloc _ _ _
  change (if s.alloc.state = .tripped then { s.resumed with alloc := { s.resumed.alloc with state := .running } }
    else s.resumed) = _
  rw [alloc]
  split
  · rfl
  · exact congrArg (fun x => { s.resumed with alloc := x }) alloc

/-! ### The start, the stop and the trip -/

/-- R61: a stop with room in the settlement queue. -/
theorem stopEffect_runs {p : Period} {b : Block} (period : s.alloc.period = some p)
    (current : s.tracker.block = some b) (room : s.tracker.queue.length < 16) :
    stopEffect s = { s with
      alloc := { s.alloc with state := .stopped, period := none, computing := none }
      tracker := s.closed p b fun f => { f with partialBlock := true }
      mgmt := (s.notice .settlementReady ((s.tracker.queue.length + 1 : Nat) : Int)).mgmt } := by
  rw [stopEffect, trackerStop_runs period current room]

theorem State.notice_mgmt_rest (k : Notice) (v : Int) :
    { (s.notice k v).mgmt with notices := s.mgmt.notices } = s.mgmt :=
  (notice_changes s k v).mgmt.resolve_left (by decide)

/-- R121: a cause that enters while RUNNING. -/
theorem raiseCause_trips {c : Cause} (new : ¬ s.hasCause c = true) (running : s.alloc.state = .running) :
    raiseCause c s = { s.causeEntered c with
      mgmt := (s.causeTold c).mgmt
      alloc := { s.alloc with state := .tripped }
      governor := (s.onGrants fun k onLine r => r.withLimit onLine (s.tables.governing k).trip).governor
      tracker := { s.tracker with
        block := s.tracker.block.map fun b => { b with flags := { b.flags with trip := true } } } } := by
  have told : (s.causeTold c).alloc.state = .running := by rw [causeTold_alloc, running]
  rw [raiseCause_new s new, tripIfRunning_running _ told, State.causeTold, State.notice_eq]
  rfl

/-- R61, R139: the block a start opens while the clock is VALID. -/
theorem startEffect_tracker (valid : s.clock.state = .valid) : (startEffect s).tracker = { s.tracker with
    attributed := 0
    block := some { s.opened (s.clock.seconds - s.clockBlock * 1800) { BlockFlags.clear with partialBlock := true } with
      flags := { partialBlock := true, trip := false, island := s.latch.island, clockStep := false, clockFree := false
                 inputDegraded := false } } } := by
  have clockFree : (false || s.clock.state == .free) = false := by rw [valid]; rfl
  have flags : (initialiseLimits s.started).openingFlags { BlockFlags.clear with partialBlock := true } =
      { partialBlock := true, trip := false, island := s.latch.island, clockStep := false
        clockFree := (false || s.clock.state == .free), inputDegraded := false } := rfl
  rw [clockFree] at flags
  rw [← flags]
  rfl

/-! ### RESUME -/

theorem gasInputsSound_iff : gasInputsSound s = true ↔ ¬ ∃ r ∈ List.range 6, s.isBound .gasSource (r / 2) = true ∧
    (s.record r).quality ≠ .good ∧ (s.record r).quality ≠ .clamped := by
  simp only [gasInputsSound, List.all_eq_true, Bool.or_eq_true, Bool.not_eq_true', beq_iff_eq, not_exists, not_and]
  refine forall_congr' fun r => forall_congr' fun _ => ?_
  cases s.isBound .gasSource (r / 2) <;> simp
  tauto

end Sys2Proof.Machine

namespace Sys2Proof.Proofs
open Sys2Proof.Machine

/-- Settles O25: the effects of a boundary in their order, each by the parts it can change. -/
theorem boundaryTaken : Obligations.BoundaryTaken := by
  intro s p released period idle now judged q recovered counted accounted length target holder0 holder1 request
  have judging : Changes inputParts { s with now := now } judged := judgeAll_changes _ _
  have accounting : Changes [.tracker, .notices] counted accounted := accountBoundary_changes _ _
  have inputs : InputChain { s with now := now } judged := judgeAll_inputs _ _
  have ran : boundaryEffect s = openPeriod (accountBoundary p.length (countOrigin p.length judged)) :=
    boundaryEffect_due period idle
  clear_value judged
  obtain ⟨state, alloc⟩ : ∃ state, judged.alloc = { s.alloc with state := state } := inputs.alloc
  have bound : ∀ x, judged.isBound .exchanger x = s.isBound .exchanger x := fun x => by
    rw [State.isBound, judging.tables.resolve_left (by decide)]
    rfl
  have heat : deliveredHeat p.length judged = q := by
    simp only [deliveredHeat, bound]
    rfl
  have counting : countOrigin p.length judged = counted := by
    rw [countOrigin, heat, show judged.alloc.rho = s.alloc.rho by rw [alloc],
      show judged.alloc.recCounter = s.alloc.recCounter by rw [alloc],
      show judged.alloc.topCounter = s.alloc.topCounter by rw [alloc]]
    rfl
  rw [counting] at ran
  have now' : accounted.now = now :=
    (accounting.now.resolve_left (by decide)).trans (judging.now.resolve_left (by decide))
  have tables : accounted.tables = s.tables :=
    (accounting.tables.resolve_left (by decide)).trans (judging.tables.resolve_left (by decide))
  have records : accounted.records = judged.records := accounting.records.resolve_left (by decide)
  have holder : accounted.holder = judged.holder := accounting.holder.resolve_left (by decide)
  have latch : accounted.latch = judged.latch := accounting.latch.resolve_left (by decide)
  have governor : accounted.governor = judged.governor := accounting.governor.resolve_left (by decide)
  have engine : accounted.alloc = counted.alloc := accounting.alloc.resolve_left (by decide)
  have handed : targetFor length accounted = target := by
    rw [targetFor, tables] <;> rfl
  have opened : openPeriod accounted = { handTarget target.1 target.2 accounted with alloc := { counted.alloc with
      period := some ⟨length, now⟩
      computing := some (takeSnapshot target.1 target.2 length (handTarget target.1 target.2 accounted)) } } := by
    rw [← handed, ← now', ← engine]
    simp only [openPeriod, tables]
    rfl
  have readings : ∀ r, accounted.readRecord r = judged.readRecord r := fun r => by
    simp only [State.readRecord, State.record, State.inputSetting, records, accounting.tables.resolve_left (by decide)]
    rfl
  refine ⟨_, _, (act_running released _).trans (congrArg _ (ran.trans opened)), now', rfl, now', rfl,
    List.map_congr_left fun r _ => readings r, congrArg Tables.t2 tables, congrArg Tables.t3 tables,
    congrArg Tables.t4 tables, congrArg Tables.t5 tables, congrArg Tables.t6 tables, congrArg Tables.t7 tables,
    congrArg Tables.t8 tables, ?_, congrArg Latch.island latch, (congrArg Alloc.state engine : accounted.alloc.state = _),
    congrArg (fun h : Holder => h.holders.map HolderState.band) holder, ?_, ?_, ?_, rfl, rfl,
    rfl, rfl, rfl, records, holder, latch, governor, ?_, ?_, tables, ?_, ?_, ?_⟩
  · exact (congrArg Latch.mode latch).trans inputs.mode
  · have window : accounted.holder.window = judged.holder.window := congrArg Holder.window holder
    have setting : ∀ h, accounted.holderSetting h = s.holderSetting h := fun h => by
      rw [State.holderSetting, tables]
      rfl
    have target0 : effectiveTarget accounted 0 = holder0.target := by simp [effectiveTarget, setting, holder0]
    have target1 : effectiveTarget accounted 1 = if judged.holder.window.state = .idle then holder1.target
        else holder1.target - holder1.blowOffset := by
      simp only [effectiveTarget, setting, window, true_and, ite_not, ne_eq, holder1]
    exact congrArg₂ (fun x y => [x, y]) target0 target1
  · have asked : ∀ x, exchangerRequest accounted x = request x := fun x => by
      have grant : accounted.grant (8 + x) = judged.grant (8 + x) := by rw [State.grant, governor, State.grant]
      simp only [exchangerRequest, tables, grant, now', request]
      cases (judged.grant (8 + x)).lastRequest <;> rfl
    exact List.map_congr_left (l := List.range 4) fun x _ => asked x
  · intro role index
    rw [← show accounted.bindings = s.bindings by rw [State.bindings, tables]; rfl]
    exact takeSnapshot_bound _ _ _ role index
  · exact (accounting.pins.resolve_left (by decide)).trans (judging.pins.resolve_left (by decide))
  · exact (accounting.port.resolve_left (by decide)).trans (judging.port.resolve_left (by decide))
  · exact (accounting.clock.resolve_left (by decide)).trans (judging.clock.resolve_left (by decide))
  · exact (accounting.sweep.resolve_left (by decide)).trans (judging.sweep.resolve_left (by decide))
  · exact (accounting.billing.resolve_left (by decide)).trans (judging.billing.resolve_left (by decide))

/-- Settles O26: the completion is `takeGrants` of the grants; each record moves by its ramp. -/
theorem completionPublishes : Obligations.CompletionPublishes := by
  intro s n released computing m
  refine ⟨completionEffect s, act_running released _, ?_⟩
  rw [completionEffect_computing s computing]
  have governed := takeGrants_regoverned (s.published n) (grantsOf m) n.period
  refine ⟨rfl, rfl, rfl, governed.length, fun k known => ?_⟩
  intro old new step moved
  have each := governed.each k
  have taken : new = _ := (s.published n).grant_onGrants known _
  by_cases running : s.alloc.state = .running
  · have target : new = ({ old with grant := (grantsOf m).getD k 0 } : GrantRecord).withLimit
        (s.governor.onLine == some k) (rampLimit (s.tables.governing k).ramp n.period old.current ((grantsOf m).getD k 0)) :=
      taken.trans (if_pos running)
    have ramped : moved = rampLimit (s.tables.governing k).ramp n.period (old.pending.getD old.limit) new.grant →
        ((s.tables.governing k).ramp = 0 → moved = new.grant) ∧ ((s.tables.governing k).ramp ≠ 0 →
          (old.pending.getD old.limit ≤ new.grant → moved = min new.grant (old.pending.getD old.limit + step)) ∧
          (new.grant ≤ old.pending.getD old.limit → moved = max new.grant (old.pending.getD old.limit - step))) :=
      fun e => ⟨fun zero => by rw [e, zero, rampLimit_straight],
        fun some_ => ⟨fun below => by rw [e, rampLimit_up some_ below], fun above => by rw [e, rampLimit_down some_ above]⟩⟩
    by_cases line : s.governor.onLine = some k
    · rw [line, beq_self_eq_true] at target
      refine ⟨by rw [target]; rfl, by rw [target]; rfl, by rw [target]; rfl, fun h => absurd running h,
        fun _ => by rw [target]; rfl, fun h => absurd line h, fun _ _ => ramped ?_⟩
      simp only [moved]
      rw [target]
      rfl
    · rw [beq_eq_false_iff_ne.mpr line] at target
      refine ⟨by rw [target]; rfl, by rw [target]; rfl, by rw [target]; rfl, fun h => absurd running h,
        fun h => absurd h line, fun _ => by rw [target]; rfl, fun _ free => ramped ?_⟩
      have pending : new.pending = none := (each.free (beq_eq_false_iff_ne.mpr line)).trans (free.resolve_left line)
      simp only [moved]
      rw [pending, target]
      rfl
  · have kept : new = { old with grant := (grantsOf m).getD k 0 } := taken.trans (if_neg running)
    rw [kept]
    exact ⟨rfl, rfl, rfl, fun _ => ⟨rfl, rfl⟩, fun _ => rfl, fun _ => rfl, fun h => absurd h running⟩

/-- Settles O31: bindings by `State.isBound_iff`; a start by its unmet conditions. -/
theorem startAllocation : Obligations.StartAllocation := by
  refine ⟨fun s role index => State.isBound_iff role index, fun t => ⟨fun k low => if_pos low, fun k low => ?_,
    fun k low => ?_, rfl⟩, ?_⟩
  · unfold Tables.governing
    rw [if_neg (by omega), if_pos (by omega), Nat.add_sub_cancel_left]
  · unfold Tables.governing
    rw [if_neg (by omega), if_neg (by omega), if_pos (by omega), Nat.add_sub_cancel_left]
  · intro s q rest h cls codes
    have served := serve_answers .startAllocation ownStart h rfl (by decide) (by decide) cls rfl
    refine ⟨fun busy => served .notNow [] s (if_pos busy), fun stopped unmet =>
      served .unmet _ s ((if_neg (not_not.mpr stopped)).trans (if_neg unmet)), fun stopped met => ?_⟩
    intro block
    have taken : ownStart q [] (s.withRequests rest) = ⟨.done, [], (startEffect s).withRequests rest⟩ :=
      (if_neg (not_not.mpr stopped)).trans (if_pos met)
    have governed := startEffect_regoverned s
    have valid : s.clock.state = .valid := by
      by_contra other
      simp [codes, other] at met
    refine ⟨_, served .done [] _ taken, rfl, startEffect_tracker valid, governed.line, governed.length, fun k known => ?_, rfl⟩
    intro g limit
    have limited : (startEffect s).grant k = _ :=
      s.grant_relimited known fun k r => startLimit (s.tables.governing k) r
    have same : startLimit (s.tables.governing k) (s.grant k) = limit := by
      simp only [startLimit, limit]
      cases (s.grant k).lastRequest <;> rfl
    rw [limited, same]

/-- Settles O32: a stop closes the block with the part of the period that has run (`stopEffect_runs`). -/
theorem stopAllocation : Obligations.StopAllocation := by
  intro s q rest h cls
  have served := serve_answers .stopAllocation ownStop h rfl (by decide) (by decide) cls rfl
  refine ⟨fun other => served .notNow [] s (if_neg other), fun p b running period current room => ?_⟩
  intro a
  have taken : ownStop q [] (s.withRequests rest) = ⟨.done, [], (stopEffect s).withRequests rest⟩ := by
    refine (if_pos running).trans (congrArg (fun t => (⟨.done, [], t⟩ : Answer)) ?_)
    rw [stopEffect_runs period current room, stopEffect_runs (s := s.withRequests rest) period current room,
      State.withRequests_notice]
    rfl
  rw [stopEffect_runs period current room] at taken
  exact ⟨_, settle (s.parted p b fun f => { f with partialBlock := true }) s.tracker.nextNumber s.tracker.pendingLoss,
    served .done [] _ taken, rfl, rfl, rfl, rfl, rfl, rfl, rfl, rfl, rfl, rfl, rfl, rfl, State.notice_mgmt_rest _ _⟩

/-- Settles O33: SET-MODE by its operand; RESUME by its unmet conditions. -/
theorem modeAndResume : Obligations.ModeAndResume := by
  refine ⟨?_, ?_⟩
  · intro s q rest code h cls
    have served : ∀ status data t, ownSetMode q [code] (s.withRequests rest) = ⟨status, data, t.withRequests rest⟩ →
        act s (serve .setMode ownSetMode) = .next (answered q rest 10 status.code data t) := by
      rcases cls with cls | cls
      · exact serve_answers .setMode ownSetMode h rfl (by decide) (by decide) cls rfl
      · exact serve_answers .setMode ownSetMode h rfl (by decide) (by decide) cls rfl
    refine ⟨fun zero => served .done [] _ (by subst zero; rfl), fun one => served .done [] _ (by subst one; rfl),
      fun zero one => served .invalidEntry [] s ?_⟩
    have notZero : code.toNat ≠ 0 := fun e => zero (BitVec.eq_of_toNat_eq e)
    have notOne : code.toNat ≠ 1 := fun e => one (BitVec.eq_of_toNat_eq e)
    simp only [ownSetMode, List.map_cons, List.map_nil]
    rfl
  · intro s q rest h cls quality codes emptied told
    have served := serve_answers .resume ownResume h rfl (by decide) (by decide) cls rfl
    have unmet : resumeUnmet s = codes := by
      simp only [resumeUnmet, gasInputsSound_iff, ite_not]
      rfl
    refine ⟨fun failing => served .unmet _ s ((if_neg (unmet ▸ failing)).trans ?_),
      fun met => served .done [] _ ((if_pos (unmet.trans met)).trans ?_)⟩
    · exact congrArg (fun l => (⟨.unmet, l.map (BitVec.ofNat 8), _⟩ : Answer)) unmet
    · rw [doneWith, withRequests_resume, resumeEffect_eq]
      rfl

/-- Settles O34: the cause's entry (`raiseCause_new`), and the trip of a RUNNING allocation (`raiseCause_trips`). -/
theorem tripRequest : Obligations.TripRequest := by
  refine ⟨?_, fun s q rest h cls => serve_answers .trip ownTrip h rfl (by decide) (by decide) cls rfl .done [] _
    (congrArg (fun t => (⟨.done, [], t⟩ : Answer)) (withRequests_raiseCause .manual))⟩
  intro s c code inSet stamp causes entered told t
  have codes : code = Cause.code := funext fun x => by cases x <;> rfl
  have known : s.hasCause c = true ↔ inSet := by simp [State.hasCause, inSet]
  have told' : s.causeTold c = told := by
    simp only [told, codes]
    rfl
  refine ⟨fun old => raiseCause_known s (known.mpr old), fun new other => ?_, fun new running => ?_⟩
  · have idle : (s.causeTold c).alloc.state ≠ .running := by rwa [causeTold_alloc]
    exact (raiseCause_new s (mt known.mp new)).trans ((tripIfRunning_idle _ idle).trans told')
  · have tripped : t = _ := raiseCause_trips (mt known.mp new) running
    rw [tripped]
    exact ⟨rfl, rfl, (congrArg State.mgmt told' : (s.causeTold c).mgmt = _), (tripJump_regoverned s).length, rfl,
      fun k low => s.grant_relimited low fun k _ => (s.tables.governing k).trip, rfl, rfl⟩

end Sys2Proof.Proofs
end

section
/-! The queues of records as a billing station reads them; statistics, restarts and the reset request; notices. -/

namespace Sys2Proof.Machine

variable {s : State} {q : Request} {rest : List Request}

theorem field_small {n v : Nat} (small : v < 256 ^ n) : field n v = be n v := by
  rw [field, if_pos small]

theorem unbe_two (hi lo : Byte) : unbe [hi, lo] = hi.toNat * 256 + lo.toNat := by simp [unbe]

/-! ### Counters -/

/-- R18: a count adds to its own counter alone. -/
theorem State.count_counter (c : Counter) {i : Nat} (known : i < s.port.stats.length) :
    (s.count c).port.stats.getD i 0 =
      if i = c.index then min 4294967295 (s.port.stats.getD i 0 + 1) else s.port.stats.getD i 0 := by
  simp only [State.count, List.getD_eq_getElem?_getD, List.getElem?_modify, List.getElem?_eq_getElem known,
    eq_comm (a := c.index)]
  split
  · simp [saturating, Nat.add_comm]
  · simp

theorem statsData_small (small : ∀ n ∈ s.port.stats, n ≤ 4294967295) :
    statsData s = s.port.stats.flatMap (be 4) := by
  unfold statsData
  refine congrArg List.flatten (List.map_congr_left fun n mem => field_small ?_)
  have := small n mem
  omega

/-! ### Notices -/

/-- R184: the pending set is in ascending code. -/
def noticesSorted (l : List (Notice × Int)) : Prop := l.Pairwise fun a b => a.1.code < b.1.code

/-- R184: what a notice event leaves in an ordered pending set. -/
theorem mem_enterNotice {k : Notice} {v : Int} {l : List (Notice × Int)} (sorted : noticesSorted l) (x : Notice) (w : Int) :
    (x, w) ∈ enterNotice k v l ↔ (x = k ∧ w = v) ∨ (x ≠ k ∧ (x, w) ∈ l) := by
  induction l with
  | nil => simp [enterNotice]
  | cons head l ih =>
    obtain ⟨k', v'⟩ := head
    obtain ⟨after, ordered⟩ := List.pairwise_cons.mp sorted
    have absent : ∀ w', ¬ (k', w') ∈ l := fun w' mem => Nat.lt_irrefl _ (after (k', w') mem)
    unfold enterNotice
    split
    · rename_i before
      have fresh : ∀ w', ¬ (k, w') ∈ (k', v') :: l := by
        intro w' mem
        rcases List.mem_cons.mp mem with same | later
        · cases same
          omega
        · have := after _ later
          dsimp only at this
          omega
      grind
    · split
      · rename_i same
        subst same
        grind
      · have := ih ordered
        grind

theorem enterNotice_sorted {k : Notice} {v : Int} {l : List (Notice × Int)} (sorted : noticesSorted l) :
    noticesSorted (enterNotice k v l) := by
  induction l with
  | nil => simp [enterNotice, noticesSorted]
  | cons head l ih =>
    obtain ⟨k', v'⟩ := head
    obtain ⟨after, ordered⟩ := List.pairwise_cons.mp sorted
    unfold enterNotice
    split
    · rename_i before
      refine List.pairwise_cons.mpr ⟨fun a mem => ?_, sorted⟩
      rcases List.mem_cons.mp mem with rfl | later
      · exact before
      · exact Nat.lt_trans before (after a later)
    · rename_i notBefore
      split
      · rename_i same
        exact List.pairwise_cons.mpr ⟨fun a mem => same ▸ after a mem, ordered⟩
      · rename_i other
        refine List.pairwise_cons.mpr ⟨fun a mem => ?_, ih ordered⟩
        obtain ⟨x, w⟩ := a
        rcases (mem_enterNotice ordered x w).mp mem with ⟨rfl, -⟩ | ⟨-, later⟩
        · exact lt_of_le_of_ne (Nat.le_of_not_lt notBefore) fun same => other (Notice.code_injective same).symm
        · exact after _ later

theorem NoticeSetting.takes_iff (t14 : NoticeSetting) (k : Notice) :
    t14.takes k = true ↔ t14.destination ≠ 0 ∧ t14.enabled.getLsbD k.code = true := by
  simp [NoticeSetting.takes]

theorem State.notice_taken {k : Notice} (taken : s.tables.t14.takes k = true) (v : Int) :
    s.notice k v = { s with mgmt := { s.mgmt with notices := enterNotice k v s.mgmt.notices } } := if_pos taken

theorem State.notice_discarded {k : Notice} (dropped : ¬ s.tables.t14.takes k = true) (v : Int) : s.notice k v = s :=
  if_neg dropped

/-- R184: the payload of a NOTICE. -/
theorem noticePayload_range (l : List (Notice × Int)) (range : ∀ p ∈ l, -2147483648 ≤ p.2 ∧ p.2 ≤ 2147483647) :
    noticePayload l = l.flatMap fun p => BitVec.ofNat 8 p.1.code :: setpointBytes p.2 := by
  refine congrArg List.flatten (List.map_congr_left fun p mem => ?_)
  obtain ⟨low, high⟩ := range p mem
  have code : field 1 p.1.code = [BitVec.ofNat 8 p.1.code] := by cases p.1 <;> rfl
  rw [code, signedField_four ⟨low, high⟩]
  rfl

end Sys2Proof.Machine

namespace Sys2Proof.Proofs
open Sys2Proof.Machine

/-- Settles O37: the two requests by the state of the queue. -/
theorem settlementFetched : Obligations.SettlementFetched := by
  refine ⟨fun r => rfl, fun s q rest cls => ⟨fun h => ?_, fun hi lo h => ?_⟩⟩
  · have served := serve_answers .fetchSettlement ownFetchSettlement h rfl (by decide) (by decide) cls rfl
    have owner : ownFetchSettlement q [] (s.withRequests rest) = match s.tracker.queue with
      | [] => ⟨.empty, [], s.withRequests rest⟩
      | r :: _ => ⟨.done, settlementData r s.tracker.queue.length, s.withRequests rest⟩ := rfl
    refine ⟨fun empty => served .empty [] s (by rw [owner, empty]), fun r more queue => ?_⟩
    exact served .done _ s (by rw [owner, queue]; rfl)
  · have served := serve_answers .releaseSettlement ownReleaseSettlement h rfl (by decide) (by decide) cls rfl
    have owner : ownReleaseSettlement q [hi, lo] (s.withRequests rest) = match s.tracker.queue with
      | [] => ⟨.empty, [], s.withRequests rest⟩
      | r :: _ =>
        if r.number = unbe [hi, lo] then ⟨.done, field 1 (s.tracker.queue.length - 1),
          ({ s with tracker := { s.tracker with queue := s.tracker.queue.drop 1 } } : State).withRequests rest⟩
        else ⟨.mismatch, settlementData r s.tracker.queue.length, s.withRequests rest⟩ := rfl
    refine ⟨fun empty => served .empty [] s (by rw [owner, empty]), fun r more queue => ⟨fun named => ?_, fun other => ?_⟩⟩
    · refine served .done _ _ ?_
      rw [owner, queue]
      exact if_pos (named.trans (unbe_two hi lo).symm)
    · refine served .mismatch _ s ?_
      rw [owner, queue]
      exact if_neg fun same => other (same.trans (unbe_two hi lo))

/-- Settles O45: the bytes of both parts, and the two requests by the state of the queue. -/
theorem billingFetched : Obligations.BillingFetched := by
  refine ⟨fun r => ?_, fun s q rest cls => ⟨fun part h => ?_, fun hi lo account h => ?_⟩⟩
  · intro reading stamp
    refine ⟨?_, rfl⟩
    have grouped : reading = readingField := by
      refine congrArg (presentField 10) (funext fun x => ?_)
      exact List.append_assoc _ _ _
    rw [grouped, billingPart0, List.append_assoc _ (flagField _) (flagField _)]
    rfl
  · have served := serve_answers .fetchBilling ownFetchBilling h rfl (by decide) (by decide) cls rfl
    have owner : ownFetchBilling q [part] (s.withRequests rest) = if 1 < part.toNat then
        refuse .badRequest (s.withRequests rest)
      else match s.billing.queue with
        | [] => refuse .empty (s.withRequests rest)
        | r :: _ => ⟨.done, billingData part.toNat r s.billing.queue.length, s.withRequests rest⟩ := rfl
    refine ⟨fun high => served .badRequest [] s (owner.trans (if_pos high)), fun low empty => served .empty [] s ?_,
      fun r more low queue => ?_⟩
    · rw [owner, if_neg (by omega), empty]
      rfl
    · refine served .done _ s ?_
      rw [owner, if_neg (by omega), queue]
      have shown : field 1 part.toNat = [part] := by
        obtain rfl | rfl : part = 0 ∨ part = 1 := by
          rcases (by omega : part.toNat = 0 ∨ part.toNat = 1) with zero | one
          · exact .inl (BitVec.eq_of_toNat_eq zero)
          · exact .inr (BitVec.eq_of_toNat_eq one)
        · rfl
        · rfl
      have first : part.toNat = 0 ↔ part = 0 := ⟨fun h => BitVec.eq_of_toNat_eq h, fun h => h ▸ rfl⟩
      simp only [billingData, shown, first]
  · have served := serve_answers .releaseBilling ownReleaseBilling h rfl (by decide) (by decide) cls rfl
    intro named
    have owner : ownReleaseBilling q [hi, lo, account] (s.withRequests rest) = match s.billing.queue with
      | [] => refuse .empty (s.withRequests rest)
      | r :: _ =>
        if r.closeNumber = unbe [hi, lo] ∧ r.account = unbe [account] then
          ⟨.done, field 1 (s.billing.queue.length - 1), (dropBilling s).withRequests rest⟩
        else ⟨.mismatch, billingData 0 r s.billing.queue.length, s.withRequests rest⟩ := rfl
    have one : unbe [account] = account.toNat := by simp [unbe]
    rw [unbe_two, one] at owner
    refine ⟨fun empty => served .empty [] s (by rw [owner, empty]; rfl), fun r more queue => ⟨fun same => ?_, fun other => ?_⟩⟩
    · refine served .done _ _ ?_
      rw [owner, queue]
      refine (if_pos same).trans ?_
      rw [dropBilling, queue]
      rfl
    · refine served .mismatch _ s ?_
      rw [owner, queue]
      exact if_neg other

/-- Settles O54: the counters by `State.count_counter`; each request by its owner. -/
theorem statisticsRestartReset : Obligations.StatisticsRestartReset := by
  refine ⟨?_, ?_⟩
  · intro s c shape place t
    have index : place = c.index := by cases c <;> rfl
    refine ⟨by simp [t, State.count, shape], fun i low => ?_, rfl⟩
    rw [index]
    exact State.count_counter c (by omega)
  · intro s q rest data zero
    refine ⟨fun h known small => ?_, fun cls => ⟨fun h small => ?_, fun h => ?_, fun h => ?_, fun h => ?_, fun h => ?_⟩⟩
    · obtain ⟨c, cls⟩ := Option.ne_none_iff_exists'.mp known
      have listed : (classesFor [BitVec.ofNat 8 5, 0]).contains c = true := by cases c <;> decide
      exact serve_answers .readStats ownReadStats h rfl (by decide) (by decide) cls listed .done data s
        (congrArg (fun d => (⟨.done, d, s.withRequests rest⟩ : Answer)) (statsData_small small))
    · exact serve_answers .readStatsClear ownReadStatsClear h rfl (by decide) (by decide) cls rfl .done data zero
        (congrArg (fun d => (⟨.done, d, zero.withRequests rest⟩ : Answer)) (statsData_small small))
    · refine serve_answers .restartSweep ownRestartSweep h rfl (by decide) (by decide) cls rfl .done [] _ ?_
      rw [← List.map_const']
      rfl
    · exact serve_answers .restartSettlementQueue ownRestartSettlement h rfl (by decide) (by decide) cls rfl .done [] _ rfl
    · exact serve_answers .restartStatistics ownRestartStatistics h rfl (by decide) (by decide) cls rfl .done [] _ rfl
    · have may : permitted q.payload (s.classOf q.station) = true := h.may cls rfl
      have answer : judgeRequest q ownReset (s.withRequests rest) =
          doneWith { s.withRequests rest with mgmt := { (s.withRequests rest).mgmt with resetStage := .replyWaiting } } := by
        have known : commandOf q.payload ≠ .badRequestCode := by rw [h.row]; decide
        exact (if_neg known).trans ((if_pos may).trans (by rw [h.payload]; rfl))
      have row : commandOf q.payload = .reset := h.row
      have served := serve_waiting h ownReset
      rw [row, answer] at served
      refine (act_running h.outOfReset _).trans (congrArg _ (served.trans ?_))
      simp only [replyTo, h.payload]
      rfl

/-- Settles O55: a notice event by `mem_enterNotice`; the frame is built from the whole set. -/
theorem noticesGathered : Obligations.NoticesGathered := by
  intro s t14 sorted
  refine ⟨fun k v off => ?_, fun k v known on_ ordered => ?_, fun released => ?_⟩
  · refine State.notice_discarded (fun taken => ?_) v
    obtain ⟨known, on_⟩ := (NoticeSetting.takes_iff _ k).mp taken
    rcases off with zero | off
    · exact known zero
    · rw [off] at on_
      cases on_
  · exact ⟨_, State.notice_taken ((NoticeSetting.takes_iff _ k).mpr ⟨known, on_⟩) v, enterNotice_sorted ordered,
      fun x w => mem_enterNotice ordered x w⟩
  · intro ready
    refine ⟨fun range gathered => ?_, fun notReady => ?_, fun due running => ?_⟩
    · refine (act_running released _).trans (congrArg _ ((if_pos gathered).trans ?_))
      rw [noticePayload_range _ range]
      rfl
    · exact (act_running released _).trans (congrArg _ (if_neg notReady))
    · refine (act_running released _).trans (congrArg _ ?_)
      rw [noticeIntervalEffect, running]
      rfl

end Sys2Proof.Proofs
end

section
/-! Chapter 9: how a sweep starts and ends, and what its commands and timers make of it. -/

namespace Sys2Proof.Machine

variable {s : State}

/-! ### The start of a sweep -/

theorem SweepCopy.lastCovered_eq (c : SweepCopy) : c.lastCovered = if c.mode = .single then c.first else c.last := by
  unfold SweepCopy.lastCovered
  cases c.mode <;> rfl

theorem rangeEmpty_iff : rangeEmpty s = true ↔ ∀ a < 96, s.sweep.copy.first ≤ a → a ≤ s.sweep.copy.lastCovered →
    (s.accountSetting a).enabled = false := by
  simp only [rangeEmpty, List.all_eq_true, List.mem_range, Bool.not_eq_true', Bool.and_eq_false_iff, decide_eq_false_iff_not]
  refine forall₂_congr fun a _ => ?_
  tauto

theorem State.withRequests_accountSetting (rest : List Request) (a : Nat) :
    (s.withRequests rest).accountSetting a = s.accountSetting a := rfl

theorem State.onSweep_notice (f : Sweep → Sweep) (k : Notice) (v : Int) :
    (s.onSweep f).notice k v = (s.notice k v).onSweep f := by
  unfold State.notice
  change (if s.tables.t14.takes k then _ else _) = State.onSweep (if s.tables.t14.takes k then _ else _) f
  split <;> rfl

/-- R146: an account of a copy's range is enabled. -/
def State.inRange (s : State) (c : SweepCopy) : Prop :=
  ∃ a < 96, c.first ≤ a ∧ a ≤ c.lastCovered ∧ (s.accountSetting a).enabled = true

theorem State.inRange_iff (c : SweepCopy) : s.inRange c ↔ ∃ a < 96, c.first ≤ a ∧
    a ≤ (if c.mode = .single then c.first else c.last) ∧ (s.accountSetting a).enabled = true := by
  rw [State.inRange, SweepCopy.lastCovered_eq]

theorem State.not_inRange_iff (c : SweepCopy) : ¬ s.inRange c ↔ ∀ a < 96, c.first ≤ a →
    a ≤ (if c.mode = .single then c.first else c.last) → (s.accountSetting a).enabled = false := by
  simp [State.inRange_iff]

theorem rangeEmpty_iff_inRange : rangeEmpty s = true ↔ ¬ s.inRange s.sweep.copy := by
  simp [rangeEmpty_iff, State.inRange]

theorem startSweepOn_busy {c : SweepCopy} (busy : s.inRange c) : startSweepOn c s = beginSweep c s :=
  if_neg fun empty => rangeEmpty_iff_inRange.mp empty busy

/-- R153: a sweep on a range with no enabled account, past its end as it starts. -/
def passedSweep (c : SweepCopy) (s : State) : State :=
  (beginSweep c s).onSweep fun w => { w with cursor := w.copy.lastCovered + 1 }

theorem startSweepOn_empty {c : SweepCopy} (empty : ¬ s.inRange c) : startSweepOn c s = settleSweep (passedSweep c s) :=
  if_pos (rangeEmpty_iff_inRange.mpr empty)

theorem settleSweep_eq : settleSweep s = { s.notice .sweepDone (s.sweep.number : Int) with sweep := { s.sweep with
    state := if s.sweep.copy.mode = .repeating then .waiting else .idle } } := by
  rw [settleSweep, State.onSweep, State.notice_sweep]

theorem withRequests_startSweepOn (c : SweepCopy) (rest : List Request) :
    startSweepOn c (s.withRequests rest) = (startSweepOn c s).withRequests rest := by
  by_cases busy : s.inRange c
  · rw [startSweepOn_busy busy, startSweepOn_busy (s := s.withRequests rest) busy]
    rfl
  · have passed : passedSweep c (s.withRequests rest) = (passedSweep c s).withRequests rest := rfl
    rw [startSweepOn_empty busy, startSweepOn_empty (s := s.withRequests rest) busy, passed, settleSweep_eq, settleSweep_eq]
    exact congrArg (fun t : State => { t with sweep := { (passedSweep c s).sweep with
      state := if (passedSweep c s).sweep.copy.mode = SweepMode.repeating then .waiting else .idle } })
      (State.withRequests_notice (s := passedSweep c s) _ _)

/-! ### The end of a sweep -/

theorem checkSweepEnd_outstanding (entries : s.sweep.entries ≠ []) : checkSweepEnd s = s := if_neg entries

theorem checkSweepEnd_open (going : s.sweep.state ≠ .stopping)
    (inside : ¬ (s.sweep.state = .sweeping ∧ s.sweep.pastEnd = true)) : checkSweepEnd s = s := by
  unfold checkSweepEnd
  rw [if_neg inside, if_neg going, ite_self]

/-- R154: a stopping engine. -/
theorem checkSweepEnd_stopping (stopping : s.sweep.state = .stopping) : checkSweepEnd s = { s with sweep := { s.sweep with
    state := if s.sweep.entries = [] then .idle else .stopping } } := by
  unfold checkSweepEnd
  have other : ¬ (s.sweep.state = .sweeping ∧ s.sweep.pastEnd = true) := fun h => by rw [stopping] at h; cases h.1
  rw [if_neg other, if_pos stopping]
  split
  · rfl
  · rw [← stopping]

/-- R153: a sweep past its end with no entry outstanding. -/
theorem checkSweepEnd_over (entries : s.sweep.entries = []) (sweeping : s.sweep.state = .sweeping)
    (past : s.sweep.pastEnd = true) : checkSweepEnd s = finishSweep s :=
  (if_pos entries).trans (if_pos ⟨sweeping, past⟩)

theorem Sweep.pastEnd_iff (w : Sweep) :
    w.pastEnd = true ↔ (if w.copy.mode = .single then w.copy.first else w.copy.last) < w.cursor := by
  rw [Sweep.pastEnd, decide_eq_true_iff, SweepCopy.lastCovered_eq]

theorem finishSweep_settles (single : ¬ (s.sweep.copy.mode = .repeating ∧ s.sweep.overrun = true)) :
    finishSweep s = settleSweep s := if_neg single

/-- R153: the next sweep starts at once on a range with an enabled account. -/
theorem finishSweep_again (again : s.sweep.copy.mode = .repeating ∧ s.sweep.overrun = true)
    (busy : s.inRange s.sweep.copy) : finishSweep s =
      ((s.notice .sweepDone (s.sweep.number : Int)).notice .sweepOverrun
        (((s.sweep.number + 1) % 65536 : Nat) : Int)).onSweep fun _ => (beginSweep s.sweep.copy s).sweep := by
  have told : ∀ (t : State), t.sweep = s.sweep → t.clock = s.clock → t.now = s.now →
      beginSweep s.sweep.copy t = t.onSweep fun _ => (beginSweep s.sweep.copy s).sweep := fun t sweep clock now => by
    simp only [beginSweep, State.onSweep, sweep, clock, now]
  have next : (beginSweep s.sweep.copy (s.notice .sweepDone (s.sweep.number : Int))).notice .sweepOverrun
      ((beginSweep s.sweep.copy (s.notice .sweepDone (s.sweep.number : Int))).sweep.number : Int) =
      ((s.notice .sweepDone (s.sweep.number : Int)).notice .sweepOverrun
        (((s.sweep.number + 1) % 65536 : Nat) : Int)).onSweep fun _ => (beginSweep s.sweep.copy s).sweep := by
    rw [told _ (State.notice_sweep _ _ _) (State.notice_clock _ _ _) (State.notice_now _ _ _), State.onSweep_notice]
    rfl
  have full : ¬ rangeEmpty (((s.notice .sweepDone (s.sweep.number : Int)).notice .sweepOverrun
        (((s.sweep.number + 1) % 65536 : Nat) : Int)).onSweep fun _ => (beginSweep s.sweep.copy s).sweep) = true := by
    rw [rangeEmpty_iff_inRange, not_not]
    have tables : ((s.notice .sweepDone (s.sweep.number : Int)).notice .sweepOverrun
        (((s.sweep.number + 1) % 65536 : Nat) : Int)).tables = s.tables := by simp
    obtain ⟨a, low, first, last, enabled⟩ := busy
    refine ⟨a, low, first, last, ?_⟩
    rw [State.accountSetting] at enabled ⊢
    exact tables ▸ enabled
  rw [finishSweep, if_pos again]
  simp only [next]
  exact if_neg full

/-! ### STOP-SWEEP -/

theorem stopSweepEffect_stopping (stopping : s.sweep.state = .stopping) : stopSweepEffect s = s := by
  simp only [stopSweepEffect, stopping]

theorem stopSweepEffect_idle (idle : s.sweep.state = .waiting ∨ (s.sweep.state = .sweeping ∧ s.sweep.entries = [])) :
    stopSweepEffect s = { s with sweep := { s.sweep with state := .idle, intervalDue := none } } := by
  rcases idle with waiting | ⟨sweeping, entries⟩
  · simp only [stopSweepEffect, waiting]
    rfl
  · simp only [stopSweepEffect, sweeping, if_pos entries]
    rfl

theorem stopSweepEffect_outstanding (sweeping : s.sweep.state = .sweeping) (entries : s.sweep.entries ≠ []) :
    let left := s.sweep.entries.filter fun e => !s.sweep.retries.contains e.account
    stopSweepEffect s = { s with sweep := { s.sweep with
      state := if left = [] then .idle else .stopping
      intervalDue := none, cursor := s.sweep.copy.lastCovered + 1, entries := left, retries := [] } } := by
  intro left
  simp only [stopSweepEffect, sweeping, if_neg entries]
  rw [checkSweepEnd_stopping rfl]
  rfl

/-! ### Visits and retries -/

theorem State.freeSlot_iff (quota : Quota) :
    s.freeSlot quota = true ↔ (s.port.insertion.filter fun f => f.quota = quota).length < quota.slots := by
  rw [State.freeSlot, decide_eq_true_iff, List.countP_eq_length_filter]
  simp only [Bool.beq_eq_decide_eq]

/-- R147: an admitted meter. -/
theorem meterStation_some {a : Nat} {b : Binding} (bound : bindingAt s.bindings .heatMeter (s.accountSetting a).meter = some b)
    (admitted : b.ignore = false) : meterStation s a = some b.station := by
  simp [meterStation, bound, admitted]

theorem meterStation_eq_some {a : Nat} {station : Byte} : meterStation s a = some station ↔
    ∃ b, bindingAt s.bindings .heatMeter (s.accountSetting a).meter = some b ∧ b.ignore = false ∧ b.station = station := by
  simp [meterStation, Option.filter_eq_some_iff, and_assoc]

theorem meterStation_none {a : Nat}
    (none_ : ¬ ∃ b, bindingAt s.bindings .heatMeter (s.accountSetting a).meter = some b ∧ b.ignore = false) :
    meterStation s a = none := by
  cases found : meterStation s a with
  | none => rfl
  | some station =>
    obtain ⟨b, bound, admitted, -⟩ := meterStation_eq_some.mp found
    exact absurd ⟨b, bound, admitted⟩ none_

theorem canIssue_iff : canIssue s = true ↔ s.sweep.entries.length < 4 ∧ s.freeSlot .poll = true ∧ s.sweep.retries = [] := by
  simp [canIssue, and_assoc]

theorem visitAccount_disabled (sweeping : s.sweep.state = .sweeping) (inside : s.sweep.pastEnd = false)
    (disabled : (s.accountSetting s.sweep.cursor).enabled = false) :
    visitAccount s = checkSweepEnd (advanceCursor s) := by
  have off : ¬ (s.accountSetting s.sweep.cursor).enabled = true := by rw [disabled]; decide
  exact (if_pos ⟨sweeping, inside⟩).trans (if_neg off)

theorem visitAccount_unmetered (sweeping : s.sweep.state = .sweeping) (inside : s.sweep.pastEnd = false)
    (enabled : (s.accountSetting s.sweep.cursor).enabled = true) (meter : meterStation s s.sweep.cursor = none) :
    visitAccount s = checkSweepEnd (missedOutcome s.sweep.cursor (advanceCursor s)) := by
  refine (if_pos ⟨sweeping, inside⟩).trans ((if_pos enabled).trans ?_)
  rw [meter]

theorem visitAccount_metered (sweeping : s.sweep.state = .sweeping) (inside : s.sweep.pastEnd = false)
    (enabled : (s.accountSetting s.sweep.cursor).enabled = true) {station : Byte}
    (meter : meterStation s s.sweep.cursor = some station) : visitAccount s = if canIssue s = true then
      placePoll s.sweep.cursor station ((advanceCursor s).onSweep fun w =>
        { w with entries := w.entries ++ [⟨s.sweep.cursor, station, .queued, 1⟩] }) else s := by
  refine (if_pos ⟨sweeping, inside⟩).trans ((if_pos enabled).trans ?_)
  rw [meter]

end Sys2Proof.Machine
end

section
namespace Sys2Proof.Machine

variable {s : State}

/-! ### Replies and timeouts -/

theorem State.account_setAccount {a : Nat} (known : a < s.billing.accounts.length) (f : Account → Account) (i : Nat) :
    (s.setAccount a f).account i = if i = a then f (s.account a) else s.account i := by
  simp only [State.account, State.setAccount, List.getD_eq_getElem?_getD, List.getElem?_modify, eq_comm (a := a)]
  split
  · rename_i same
    subst same
    simp [List.getElem?_eq_getElem known]
  · simp

/-- An account of known number is set to what its change makes of it. -/
theorem State.setAccount_const {a : Nat} (known : a < s.billing.accounts.length) (f : Account → Account) :
    s.setAccount a f = s.setAccount a fun _ => f (s.account a) := by
  have same : s.billing.accounts.modify a f = s.billing.accounts.modify a fun _ => f (s.account a) := by
    refine List.ext_getElem? fun i => ?_
    simp only [List.getElem?_modify, State.account, List.getD_eq_getElem?_getD]
    split
    · rename_i place
      subst place
      simp [List.getElem?_eq_getElem known]
    · rfl
  rw [State.setAccount, same]
  rfl

theorem billMissed_counts {a : Nat} (known : a < s.billing.accounts.length) :
    billMissed a s = if (s.account a).state ≠ .silent ∧ (missAccount (s.account a)).state = .silent then
      (s.setAccount a fun _ => missAccount (s.account a)).notice .accountSilent (a : Int)
    else s.setAccount a fun _ => missAccount (s.account a) := by
  rw [billMissed, State.account_setAccount known, if_pos rfl, State.setAccount_const known]

theorem replyRegister_some (entries : List SampleEntry) {v : Int} (status : lastOnChannel entries 2 = some 0)
    (register : lastOnChannel entries 1 = some v) (low : 0 ≤ v) (high : v ≤ 99999999) :
    replyRegister entries = some v.toNat := by
  simp [replyRegister, status, register, low, high]

theorem replyRegister_none (entries : List SampleEntry) (unsound : ¬ (lastOnChannel entries 2 = some 0 ∧
    ∃ v, lastOnChannel entries 1 = some v ∧ 0 ≤ v ∧ v ≤ 99999999)) : replyRegister entries = none := by
  unfold replyRegister
  split
  · rename_i status v read register
    refine if_neg fun h => unsound ⟨?_, v, register, h.2⟩
    rw [read, h.1]
  · rfl

/-- R149: an AWAY entry of a station and a sequence. -/
def PollEntry.answers (e : PollEntry) (station seq : Byte) : Bool :=
  e.station == station && match e.phase with | .away q _ => q == seq | .queued => false

theorem PollEntry.answers_iff (e : PollEntry) (station seq : Byte) :
    e.answers station seq = true ↔ e.station = station ∧ ∃ d, e.phase = .away seq d := by
  rw [PollEntry.answers, Bool.and_eq_true, beq_iff_eq]
  cases e.phase <;> simp

theorem matchingEntry_eq (station seq : Byte) :
    matchingEntry s station seq = s.sweep.entries.find? fun e => e.answers station seq := rfl

theorem matchingEntry_found {station seq : Byte} {e : PollEntry} (found : matchingEntry s station seq = some e) :
    e ∈ s.sweep.entries ∧ e.station = station ∧ ∃ d, e.phase = .away seq d := by
  rw [matchingEntry_eq] at found
  exact ⟨List.mem_of_find?_eq_some found, (PollEntry.answers_iff e station seq).mp (List.find?_some (p := fun e : PollEntry => e.answers station seq) found)⟩

theorem matchingEntry_exists {station seq : Byte} :
    (∃ e, matchingEntry s station seq = some e) ↔ ∃ e ∈ s.sweep.entries, e.station = station ∧ ∃ d, e.phase = .away seq d := by
  rw [← Option.isSome_iff_exists, matchingEntry_eq, List.find?_isSome]
  simp only [PollEntry.answers_iff]

/-! ### Outcomes of an account -/

theorem State.setAccount_self (a : Nat) {f : Account → Account} (same : f (s.account a) = s.account a) :
    s.setAccount a f = s := by
  have kept : s.billing.accounts.modify a f = s.billing.accounts := by
    refine List.ext_getElem? fun i => ?_
    rw [List.getElem?_modify]
    split
    · rename_i place
      subst place
      cases found : s.billing.accounts[a]? with
      | none => rfl
      | some x =>
        have current : s.account a = x := by simp [State.account, List.getD_eq_getElem?_getD, found]
        rw [current] at same
        exact congrArg some same
    · exact Option.map_id'
  rw [State.setAccount, kept]

theorem missAccount_disabled {x : Account} (off : x.state = .disabled) : missAccount x = x := by
  simp only [missAccount, off]

/-- R166: the period data after a MISSED outcome. -/
def Account.missed (x : Account) : Account := { x with period := { x.period with missed := saturating 65535 x.period.missed 1 } }

theorem missAccount_silent {x : Account} (silent : x.state = .silent) :
    missAccount x = { x.missed with misses := saturating 255 x.misses 1 } := by
  cases x
  cases silent
  rfl

theorem missAccount_few {x : Account} (read : x.state = .unread ∨ x.state = .active) (few : x.misses < 7) :
    missAccount x = { x.missed with misses := x.misses + 1 } := by
  cases x
  rcases read with e | e
  · cases e; exact if_pos few
  · cases e; exact if_pos few

theorem missAccount_many {x : Account} (read : x.state = .unread ∨ x.state = .active) (many : 7 ≤ x.misses) :
    missAccount x = { x.missed with misses := saturating 255 x.misses 1, state := .silent } := by
  cases x
  rcases read with e | e
  · cases e; exact if_neg (Nat.not_lt.mpr many)
  · cases e; exact if_neg (Nat.not_lt.mpr many)

theorem replyTimeout_away {e : PollEntry} {seq : Byte} {departed : Nat} (outstanding : s.sweep.entryOf e.account = some e)
    (phase : e.phase = .away seq departed) : replyTimeout e.account s =
      let s1 := s.advanceTo (departed + replyTime)
      if s1.sweep.state = .sweeping then
        if e.attempt < 1 + s1.tables.t13.retryLimit ∧ meterStation s1 e.account = some e.station then
          s1.onSweep fun w =>
            { w with
              entries := w.entries.map fun x =>
                if x.account = e.account then { x with phase := .queued, attempt := x.attempt + 1 } else x
              retries := w.retries ++ [e.account] }
        else checkSweepEnd (missedOutcome e.account (freeEntry e.account s1))
      else checkSweepEnd (freeEntry e.account s1) := by
  unfold replyTimeout
  rw [outstanding]
  dsimp only
  rw [phase]

end Sys2Proof.Machine

namespace Sys2Proof.Proofs
open Sys2Proof.Machine

/-- Settles O38: a start by the range of T13, a stop by the engine's state. -/
theorem sweepCommands : Obligations.SweepCommands := by
  refine ⟨?_, ?_⟩
  · intro s q rest h cls t13 last
    have served : ∀ status data t, ownStartSweep q [] (s.withRequests rest) = ⟨status, data, t.withRequests rest⟩ →
        act s (serve .startSweep ownStartSweep) = .next (answered q rest 13 status.code data t) := by
      rcases cls with cls | cls
      · exact serve_answers .startSweep ownStartSweep h rfl (by decide) (by decide) cls rfl
      · exact serve_answers .startSweep ownStartSweep h rfl (by decide) (by decide) cls rfl
    have starts : s.sweep.state = .idle → s.clock.state = .valid → ownStartSweep q [] (s.withRequests rest) =
        ⟨.done, [], (startSweepOn t13.toCopy s).withRequests rest⟩ := fun idle valid =>
      ((if_neg (not_not.mpr idle)).trans (if_pos valid)).trans
        (congrArg (fun t => (⟨.done, [], t⟩ : Answer)) (withRequests_startSweepOn _ rest))
    refine ⟨fun busy => served .notNow [] s (if_pos busy), fun idle wrong =>
      served .unmet _ s ((if_neg (not_not.mpr idle)).trans (if_neg wrong)), fun idle valid busy => ?_,
      fun idle valid _ => served .done [] _ (starts idle valid)⟩
    have taken := starts idle valid
    rw [startSweepOn_busy ((State.inRange_iff _).mpr busy)] at taken
    exact served .done [] _ taken
  · intro s q rest h cls last left
    have served : ∀ status data t, ownStopSweep q [] (s.withRequests rest) = ⟨status, data, t.withRequests rest⟩ →
        act s (serve .stopSweep ownStopSweep) = .next (answered q rest 14 status.code data t) := by
      rcases cls with cls | cls
      · exact serve_answers .stopSweep ownStopSweep h rfl (by decide) (by decide) cls rfl
      · exact serve_answers .stopSweep ownStopSweep h rfl (by decide) (by decide) cls rfl
    have stops : ∀ t : State, s.sweep.state ≠ .idle → stopSweepEffect (s.withRequests rest) = t.withRequests rest →
        exec .stopSweep s = .next (answered q rest 14 0 [] t) := fun t going effect =>
      served .done [] t ((if_neg going).trans (congrArg (fun t => (⟨.done, [], t⟩ : Answer)) effect))
    refine ⟨fun idle => served .notNow [] s (if_pos idle), fun stopping => ?_, fun idle => ?_, fun sweeping entries => ?_⟩
    · exact stops s (by rw [stopping]; decide) (stopSweepEffect_stopping (s := s.withRequests rest) stopping)
    · refine stops _ (fun e => ?_) (stopSweepEffect_idle (s := s.withRequests rest) idle)
      rcases idle with waiting | ⟨sweeping, -⟩
      · rw [e] at waiting; cases waiting
      · rw [e] at sweeping; cases sweeping
    · have stopped := stopSweepEffect_outstanding (s := s.withRequests rest) sweeping entries
      rw [SweepCopy.lastCovered_eq] at stopped
      exact stops _ (by rw [sweeping]; decide) stopped

/-- Settles O39: a visit by the account and its meter, a retry by the free slot. -/
theorem pollsPlaced : Obligations.PollsPlaced := by
  refine ⟨fun s quota => ?_, fun s released => ⟨fun sweeping inside => ?_, fun a more e waiting outstanding => ?_⟩⟩
  · rw [State.freeSlot_iff]
    cases quota <;> rfl
  · intro a on_ meter pollable room
    refine ⟨fun disabled => ?_, fun enabled unmetered => ?_, fun b enabled bound admitted => ⟨fun issued => ?_, fun full => ?_⟩⟩
    · exact (act_running released _).trans (congrArg _ (visitAccount_disabled sweeping inside disabled))
    · exact (act_running released _).trans (congrArg _ (visitAccount_unmetered sweeping inside enabled (meterStation_none unmetered)))
    · exact (act_running released _).trans (congrArg _ ((visitAccount_metered sweeping inside enabled
        (meterStation_some bound admitted)).trans (if_pos (canIssue_iff.mpr issued))))
    · exact (act_running released _).trans (congrArg _ ((visitAccount_metered sweeping inside enabled
        (meterStation_some bound admitted)).trans (if_neg (mt canIssue_iff.mp full))))
  · have placed : placeRetry s = if s.freeSlot .poll = true then
        placePoll a e.station (s.onSweep fun w => { w with retries := more }) else s := by
      simp only [placeRetry, waiting, Sweep.entryOf, outstanding]
    refine ⟨fun free => (act_running released _).trans (congrArg _ (placed.trans (if_pos free))), fun full => ?_⟩
    have held : ¬ s.freeSlot .poll = true := by rw [full]; decide
    exact (act_running released _).trans (congrArg _ (placed.trans (if_neg held)))

/-- Settles O40: a reply timer by the state and the attempts left, the interval timer by the state and the range. -/
theorem sweepTimersExpire : Obligations.SweepTimersExpire := by
  intro s released
  refine ⟨fun e seq departed outstanding phase => ?_, fun due running => ?_⟩
  · intro late again freed
    have timed : replyTimeout e.account s = _ := replyTimeout_away outstanding phase
    have again' : again ↔ e.attempt < 1 + s.tables.t13.retryLimit ∧ meterStation late e.account = some e.station := by
      rw [meterStation_eq_some]
      rfl
    refine ⟨fun sweeping left => (act_running released _).trans (congrArg _ (timed.trans ?_)),
      fun sweeping spent => (act_running released _).trans (congrArg _ (timed.trans ?_)),
      fun stopping => (act_running released _).trans (congrArg _ (timed.trans ?_))⟩
    · exact (if_pos sweeping).trans (if_pos (again'.mp left))
    · exact (if_pos sweeping).trans (if_neg (mt again'.mpr spent))
    · refine (if_neg fun h => ?_).trans (checkSweepEnd_stopping stopping)
      rw [show (s.advanceTo (departed + replyTime)).sweep.state = .stopping from stopping] at h
      cases h
  · intro now c last
    have timed : intervalEffect s = match s.sweep.state with
        | .waiting => startSweepOn c (s.advanceTo due)
        | .sweeping => (s.advanceTo due).onSweep fun w => { w with overrun := true, intervalDue := none }
        | _ => s := by
      simp only [intervalEffect, running]
      rfl
    refine ⟨fun sweeping => (act_running released _).trans (congrArg _ (timed.trans ?_)),
      fun waiting busy => (act_running released _).trans (congrArg _ (timed.trans ?_)),
      fun waiting _ => (act_running released _).trans (congrArg _ (timed.trans ?_))⟩
    · rw [sweeping]
      rfl
    · rw [waiting]
      exact startSweepOn_busy (s := s.advanceTo due) ((State.inRange_iff _).mpr busy)
    · rw [waiting]
      rfl

/-- Settles O41: a reply by the entry it answers (`matchingEntry_found`) and its register; the counts of an account. -/
theorem meterReplyJudged : Obligations.MeterReplyJudged := by
  refine ⟨fun s station seq entries => ⟨fun none_ => ?_, fun some_ => matchingEntry_exists.mpr some_, fun e found => ?_⟩,
    fun s a known => ?_⟩
  · have late : matchingEntry s station seq = none := by
      cases found : matchingEntry s station seq with
      | none => rfl
      | some e =>
        obtain ⟨mem, same, d, away⟩ := matchingEntry_found found
        exact absurd away (none_ e mem same d)
    rw [meterReply, late]
  · intro freed last status register sound
    obtain ⟨mem, same, away⟩ := matchingEntry_found found
    have reading : ∀ channel, lastOnChannel entries channel = last channel := lastOnChannel_eq entries
    refine ⟨mem, same, away, fun v ok read => ?_, fun unsound => ?_⟩
    · obtain ⟨zero, w, same', low, high⟩ := ok
      obtain rfl : v = w := Option.some.inj (read.symm.trans same')
      rw [meterReply, found]
      dsimp only
      rw [replyRegister_some entries ((reading 2).trans zero) ((reading 1).trans read) low high]
      rfl
    · rw [meterReply, found]
      dsimp only
      rw [replyRegister_none entries (by rw [reading, reading]; exact unsound)]
      rfl
  · intro x counted
    have count := billMissed_counts (s := s) known
    refine ⟨fun off => ⟨?_, State.setAccount_self a (if_pos off)⟩, fun read => ⟨fun few => ?_, fun many => ?_⟩, fun silent => ?_,
      fun on_ => ?_⟩
    · rw [count, missAccount_disabled off, if_neg (fun h => h.1 h.2)]
      exact State.setAccount_self a rfl
    · rw [count, missAccount_few read few]
      refine if_neg fun h => ?_
      exact h.1 h.2
    · rw [count, missAccount_many read many]
      refine if_pos ⟨?_, rfl⟩
      rcases read with e | e <;> rw [e] <;> decide
    · rw [count, missAccount_silent silent]
      exact if_neg fun h => h.1 silent
    · rw [billFault, State.setAccount_const known]
      exact congrArg (fun y => s.setAccount a fun _ => y) (if_neg on_)

/-- Settles O42: what `checkSweepEnd` makes of each state of the engine. -/
theorem sweepEnds : Obligations.SweepEnds := by
  intro s w last after done number told
  refine ⟨fun entries => checkSweepEnd_outstanding entries, fun _ going inside => ?_, fun entries stopping => ?_,
    fun entries sweeping past single => ?_, fun entries sweeping past repeating overrun busy => ?_, ?_⟩
  · exact checkSweepEnd_open going fun h => inside ⟨h.1, (Sweep.pastEnd_iff _).mp h.2⟩
  · rw [checkSweepEnd_stopping stopping, if_pos entries]
  · rw [checkSweepEnd_over entries sweeping ((Sweep.pastEnd_iff _).mpr past), finishSweep_settles single, settleSweep_eq]
  · rw [checkSweepEnd_over entries sweeping ((Sweep.pastEnd_iff _).mpr past),
      finishSweep_again ⟨repeating, overrun⟩ ((State.inRange_iff _).mpr busy)]
    have next : (beginSweep s.sweep.copy s).sweep = { w with
        number := number, cursor := w.copy.first, overrun := false, tallyRead := 0, tallyFault := 0, tallyMissed := 0
        startStamp := some { day := s.clock.day, seconds := s.clock.seconds }
        intervalDue := some (s.now + w.copy.interval * 1000) } := by
      rw [beginSweep, State.onSweep, if_pos repeating, ← sweeping]
      rfl
    rw [next]
    rfl
  · intro c end_ empty
    have none_ : ¬ s.inRange c := (State.not_inRange_iff c).mpr empty
    refine ⟨_, startSweepOn_empty none_, ?_⟩
    rw [settleSweep_eq]
    have told : (passedSweep c s).notice .sweepDone (number : Int) =
        (s.notice .sweepDone (number : Int)).onSweep fun _ => (passedSweep c s).sweep :=
      State.onSweep_notice (s := s) (fun _ => (passedSweep c s).sweep) _ _
    have mgmt : ((passedSweep c s).notice .sweepDone (number : Int)).mgmt = (s.notice .sweepDone (number : Int)).mgmt := by
      rw [told]
      rfl
    refine ⟨rfl, rfl, rfl, rfl, mgmt, ?_⟩
    change { (passedSweep c s).notice .sweepDone (number : Int) with sweep := s.sweep, mgmt := s.mgmt } = s
    rw [told, State.notice_eq]
    rfl

end Sys2Proof.Proofs
end

section
/-! Chapter 10: what a reading makes of its account, and the close of a billing period. -/

namespace Sys2Proof.Machine

variable {s : State} {r : Reading}

/-! ### A reading -/

theorem takeReading_first (enabled : (s.accountSetting r.account).enabled = true)
    (fresh : (s.account r.account).baseline = none) : takeReading r s = takeBaseline false r s := by
  refine (if_pos enabled).trans ?_
  rw [fresh]

theorem takeReading_rebase {base : Baseline} (enabled : (s.accountSetting r.account).enabled = true)
    (baseline : (s.account r.account).baseline = some base) (doubtful : 3 ≤ (s.account r.account).implausible) :
    takeReading r s = takeBaseline true r s := by
  refine (if_pos enabled).trans ?_
  rw [baseline]
  exact if_pos doubtful

/-- R162: the limit and the delta of a reading against a baseline. -/
def State.plausible (s : State) (r : Reading) (base : Baseline) : Prop :=
  readingDelta base.register r.register ≤
    plausibilityLimit (s.accountSetting r.account).rate ((r.time - base.time) / 1000)

theorem takeReading_accepted {base : Baseline} (enabled : (s.accountSetting r.account).enabled = true)
    (baseline : (s.account r.account).baseline = some base) (sound : (s.account r.account).implausible < 3)
    (plausible : s.plausible r base) :
    takeReading r s = acceptReading base (readingDelta base.register r.register) r s := by
  refine (if_pos enabled).trans ?_
  rw [baseline]
  exact (if_neg (Nat.not_le.mpr sound)).trans (if_pos plausible)

theorem takeReading_rejected {base : Baseline} (enabled : (s.accountSetting r.account).enabled = true)
    (baseline : (s.account r.account).baseline = some base) (sound : (s.account r.account).implausible < 3)
    (implausible : ¬ s.plausible r base) : takeReading r s = rejectReading r s := by
  refine (if_pos enabled).trans ?_
  rw [baseline]
  exact (if_neg (Nat.not_le.mpr sound)).trans (if_neg implausible)

theorem takeReading_account (enabled : (s.accountSetting r.account).enabled = true) :
    ∃ f, takeReading r s = s.setAccount r.account f := by
  cases baseline : (s.account r.account).baseline with
  | none => exact ⟨_, takeReading_first enabled baseline⟩
  | some base =>
    by_cases doubtful : 3 ≤ (s.account r.account).implausible
    · exact ⟨_, takeReading_rebase enabled baseline doubtful⟩
    · by_cases plausible : s.plausible r base
      · exact ⟨_, takeReading_accepted enabled baseline (Nat.lt_of_not_le doubtful) plausible⟩
      · exact ⟨_, takeReading_rejected enabled baseline (Nat.lt_of_not_le doubtful) plausible⟩

/-- R165: an accumulator after a filing. -/
theorem fileEnergy_getD {place i : Nat} (amount : Nat) {energies : List Nat} (known : place < energies.length) :
    (fileEnergy place amount energies).getD i 0 =
      if i = place then min 4294967295 (energies.getD place 0 + amount) else energies.getD i 0 := by
  simp only [fileEnergy, List.getD_eq_getElem?_getD, List.getElem?_modify, eq_comm (a := place)]
  split
  · rename_i same
    subst same
    simp [List.getElem?_eq_getElem known, saturating]
  · simp

theorem fileEnergy_length (place amount : Nat) (energies : List Nat) :
    (fileEnergy place amount energies).length = energies.length := List.length_modify ..

theorem originFraction_le (deltaRec deltaTop : Nat) : originFraction deltaRec deltaTop ≤ 1000 := by
  unfold originFraction
  split
  · exact le_rfl
  · exact Nat.div_le_of_le_mul (by nlinarith)

/-! ### The close -/

/-- R171: the notice of a queue of so many records. -/
def noticeBilling (t : State) (count : Nat) : State :=
  if 144 ≤ count then t.notice .billingQueueHigh (count : Int) else t

/-- R171: the notices of a queue that grows by `n` records. -/
def billingNotices (held n : Nat) (s : State) : State :=
  ((List.range n).map fun i => held + i + 1).foldl noticeBilling s

theorem billingNotices_succ (held n : Nat) (u : State) :
    billingNotices held (n + 1) u = billingNotices (held + 1) n (noticeBilling u (held + 1)) := by
  rw [billingNotices, List.range_succ_eq_map, List.map_cons, List.foldl_cons, List.map_map]
  refine congrArg (fun l => List.foldl _ _ l) (List.map_congr_left fun i _ => ?_)
  simp only [Function.comp_apply]
  omega

theorem noticeBilling_tables (t : State) (count : Nat) : (noticeBilling t count).tables = t.tables := by
  unfold noticeBilling
  split
  · exact State.notice_tables _ _ _
  · rfl

theorem noticeBilling_mgmt {t u : State} (tables : u.tables = t.tables) (mgmt : u.mgmt = t.mgmt) (count : Nat) :
    (noticeBilling u count).mgmt = (noticeBilling t count).mgmt := by
  unfold noticeBilling
  split
  · exact State.notice_mgmt_congr (by rw [tables]) mgmt _ _
  · exact mgmt

theorem appendBilling_eq (b : BillingRecord) : appendBilling s b =
    noticeBilling { s with billing := { s.billing with queue := s.billing.queue ++ [b] } } (s.billing.queue.length + 1) := by
  simp only [appendBilling, List.length_append, List.length_singleton]
  rfl

theorem appendBilling_tables (b : BillingRecord) : (appendBilling s b).tables = s.tables :=
  (appendBilling_changes s b).tables.resolve_left (by decide)

theorem foldl_appendBilling_mgmt (records : List BillingRecord) (s u : State) (tables : u.tables = s.tables)
    (mgmt : u.mgmt = s.mgmt) : (records.foldl appendBilling s).mgmt =
      (billingNotices s.billing.queue.length records.length u).mgmt := by
  induction records generalizing s u with
  | nil => exact mgmt.symm
  | cons b records ih =>
    have held : (appendBilling s b).billing.queue.length = s.billing.queue.length + 1 := by
      rw [appendBilling_billing]
      simp
    rw [List.foldl_cons, List.length_cons, billingNotices_succ, ← held]
    refine ih _ _ ?_ ?_
    · rw [appendBilling_tables, noticeBilling_tables, tables]
    · rw [held, appendBilling_eq]
      exact noticeBilling_mgmt
        (t := { s with billing := { s.billing with queue := s.billing.queue ++ [b] } }) tables mgmt _

theorem withRequests_appendBilling (rest : List Request) (b : BillingRecord) :
    appendBilling (s.withRequests rest) b = (appendBilling s b).withRequests rest := by
  change (if 144 ≤ (s.billing.queue ++ [b]).length then _ else _) =
    State.withRequests (if 144 ≤ (s.billing.queue ++ [b]).length then _ else _) rest
  split
  · exact State.withRequests_notice (s := { s with billing := { s.billing with queue := s.billing.queue ++ [b] } }) _ _
  · rfl

theorem withRequests_foldl_appendBilling (rest : List Request) (records : List BillingRecord) (s : State) :
    records.foldl appendBilling (s.withRequests rest) = (records.foldl appendBilling s).withRequests rest := by
  induction records generalizing s with
  | nil => rfl
  | cons b records ih => rw [List.foldl_cons, List.foldl_cons, withRequests_appendBilling, ih]

theorem withRequests_takeClose (rest : List Request) : takeClose (s.withRequests rest) = (takeClose s).withRequests rest := by
  have appended := withRequests_foldl_appendBilling rest
    ((enabledAccounts s).map (billingRecord s ((s.billing.closeCounter + 1) % 65536))) s
  unfold takeClose
  dsimp only
  rw [show ((enabledAccounts (s.withRequests rest)).map (billingRecord (s.withRequests rest)
    (((s.withRequests rest).billing.closeCounter + 1) % 65536))).foldl appendBilling (s.withRequests rest) = _ from appended]
  rfl

theorem takeClose_accounts (s : State) : (takeClose s).billing.accounts.length = s.billing.accounts.length := by
  simp only [takeClose, foldl_appendBilling_billing, mapFrom_length]

/-- R169: a close touches the billing unit and the notices alone. -/
theorem takeClose_rest (s : State) : { takeClose s with billing := s.billing, mgmt := s.mgmt } = s := by
  have kept : ∀ (records : List BillingRecord) (t : State),
      { records.foldl appendBilling t with billing := t.billing, mgmt := t.mgmt } = t := fun records => by
    induction records with
    | nil => exact fun _ => rfl
    | cons b records ih =>
      intro t
      have one : { appendBilling t b with billing := t.billing, mgmt := t.mgmt } = t := by
        rw [appendBilling_eq, noticeBilling]
        split
        · rw [State.notice_eq]
        · rfl
      rw [List.foldl_cons]
      exact (congrArg (fun x : State => { x with billing := t.billing, mgmt := t.mgmt }) (ih (appendBilling t b))).trans one
  exact kept ((enabledAccounts s).map (billingRecord s ((s.billing.closeCounter + 1) % 65536))) s

/-- R169: what a close makes of the accounts. -/
theorem takeClose_account {a : Nat} (known : a < s.billing.accounts.length) : (takeClose s).account a =
    if (s.accountSetting a).enabled = true then (s.account a).closed else s.account a := by
  have accounts : (((enabledAccounts s).map (billingRecord s ((s.billing.closeCounter + 1) % 65536))).foldl
      appendBilling s).billing.accounts = s.billing.accounts := by rw [foldl_appendBilling_billing]
  simp only [State.account, takeClose, accounts, List.getD_eq_getElem?_getD, mapFrom_getElem?, Nat.zero_add,
    List.getElem?_eq_getElem known, Option.map_some, Option.getD_some]

theorem chargesOf_getD (prices energies : List Nat) {i : Nat} (low : i < 8) :
    (chargesOf prices energies).getD i 0 = (energies.getD i 0 * prices.getD i 0 + 500) / 1000 := by
  simp [chargesOf, charge, List.getD_eq_getElem?_getD, low]

end Sys2Proof.Machine

namespace Sys2Proof.Proofs
open Sys2Proof.Machine

/-- Settles O43: a reading by its account's baseline, its implausible count and the plausibility limit. -/
theorem readingTaken : Obligations.ReadingTaken := by
  intro s r shape known enabled a b taken here entered settled
  have place : r.account < s.billing.accounts.length := by omega
  have account : ∀ f, takeReading r s = s.setAccount r.account f → b = f a := fun f e => by
    rw [show b = (takeReading r s).account r.account from rfl, e, State.account_setAccount place, if_pos rfl]
  obtain ⟨f, changed⟩ := takeReading_account enabled
  refine ⟨fun fresh => ?_, fun base baseline doubtful => ?_, fun base baseline sound => ?_, fun i other => ?_, ?_, ?_⟩
  · have is := account _ (takeReading_first enabled fresh)
    simp only [settled, entered]
    rw [is]
    exact ⟨⟨rfl, rfl, rfl, rfl⟩, ⟨rfl, rfl⟩, rfl, rfl⟩
  · have is := account _ (takeReading_rebase enabled baseline doubtful)
    simp only [settled, entered]
    rw [is]
    exact ⟨⟨rfl, rfl, rfl, rfl⟩, ⟨rfl, rfl⟩, rfl, rfl⟩
  · intro elapsed limit delta dr dt f band
    have top : plausibilityLimit (s.accountSetting r.account).rate elapsed = limit := by
      simp only [plausibilityLimit, ceilDiv, limit]
      omega
    have plausible : s.plausible r base ↔ delta ≤ limit := by
      rw [← top]
      rfl
    refine ⟨fun high => ?_, fun low eight listed => ?_⟩
    · exact account _ (takeReading_rejected enabled baseline sound fun h => absurd (plausible.mp h) (Nat.not_le.mpr high))
    · have is := account _ (takeReading_accepted enabled baseline sound (plausible.mpr low))
      have fraction : f ≤ 1000 := originFraction_le dr dt
      have part : delta * f / 1000 ≤ delta := Nat.div_le_of_le_mul (by nlinarith)
      have energies : b.energies = fileEnergy (2 * band + 1) (delta - delta * f / 1000)
          (fileEnergy (2 * band) (delta * f / 1000) a.energies) := by
        rw [is]
        rfl
      simp only [settled, entered]
      rw [energies]
      have inside : 2 * band < a.energies.length := by omega
      have inside' : 2 * band + 1 < (fileEnergy (2 * band) (delta * f / 1000) a.energies).length := by
        rw [fileEnergy_length]
        omega
      refine ⟨by rw [is]; exact ⟨rfl, rfl, rfl, rfl⟩, by rw [is]; exact ⟨rfl, rfl⟩, fraction, _, delta - delta * f / 1000, rfl,
        by omega, ?_, ?_, fun i even odd => ?_⟩
      · rw [fileEnergy_getD _ inside', if_neg (by omega), fileEnergy_getD _ inside, if_pos rfl]
      · rw [fileEnergy_getD _ inside', if_pos rfl, fileEnergy_getD _ inside, if_neg (by omega)]
      · rw [fileEnergy_getD _ inside', if_neg odd, fileEnergy_getD _ inside, if_neg even]
  · rw [changed, State.account_setAccount place, if_neg other]
  · rw [changed]
    rfl
  · rw [changed]
    rfl

/-- Settles O44: the records of the enabled accounts (`takeClose_queue`), their notices (`foldl_appendBilling_mgmt`). -/
theorem closePeriod : Obligations.ClosePeriod := by
  intro s q rest h cls shape accounts n number held told
  have served := serve_answers .closePeriod ownClosePeriod h rfl (by decide) (by decide) cls rfl
  refine ⟨fun full => served .queueFull [] s (if_pos full), fun room => ?_⟩
  have few : n ≤ 96 := shape ▸ List.countP_le_length
  have data : field 2 number ++ field 1 n = be 2 number ++ be 1 n := by
    rw [field_small (show number < 256 ^ 2 from Nat.mod_lt _ (by decide)), field_small (by omega)]
  have taken : ownClosePeriod q [] (s.withRequests rest) =
      ⟨.done, be 2 number ++ be 1 n, (takeClose s).withRequests rest⟩ := by
    rw [← data, ← withRequests_takeClose]
    exact if_neg (Nat.not_lt.mpr room)
  have notices : told = billingNotices held n s := by
    have casts : told = (((List.range n).map fun i => held + i + 1).map fun i : Nat => (i : Int)).foldl
        (fun t count => if 144 ≤ count then State.notice t .billingQueueHigh count else t) s := by
      rw [← List.flatMap_pure_eq_map]
      rfl
    have each : (fun (t : State) (i : Nat) => if (144 : Int) ≤ (i : Int) then State.notice t .billingQueueHigh (i : Int) else t) =
        noticeBilling := by
      funext t i
      simp only [noticeBilling, show (144 : Int) ≤ (i : Int) ↔ 144 ≤ i by omega]
    rw [casts, List.foldl_map, each]
    rfl
  refine ⟨takeClose s, (enabledAccounts s).map (billingRecord s number), served .done _ _ taken, takeClose_queue s,
    by rw [List.length_map, enabledAccounts_length]; rfl, rfl, ?_, rfl, ?_, fun r mem => ?_, fun a low enabled => ?_,
    fun a low disabled => ?_, ?_, ?_⟩
  · rw [takeClose_accounts, accounts]
  · rw [List.map_map, enabledAccounts, shape]
    exact List.map_id _
  · obtain ⟨a, -, rfl⟩ := List.mem_map.mp mem
    exact ⟨rfl, rfl, rfl, rfl, rfl, rfl, rfl, rfl, fun i low => chargesOf_getD _ _ low⟩
  · rw [takeClose_account (by omega), if_pos enabled]
    rfl
  · rw [takeClose_account (by omega), if_neg (by rw [disabled]; decide)]
  · have counted : ((enabledAccounts s).map (billingRecord s number)).length = n := by
      rw [List.length_map, enabledAccounts_length]
      rfl
    rw [notices, ← counted]
    exact foldl_appendBilling_mgmt _ s s rfl rfl
  · exact takeClose_rest s

end Sys2Proof.Proofs
end

section
/-! The row and the classes of a request (R174, R175), and the requests that are refused before they do anything. -/

namespace Sys2Proof.Machine

variable {s : State} {q : Request} {rest : List Request}

/-! ### The rows -/

/-- R173: the owner that answers the requests of a row. -/
def ownerOf : Instr → Option (Request → List Byte → State → Answer)
  | .badRequestCode => some fun _ _ s => refuse .badRequest s
  | .read => some ownRead | .readOn => some ownReadOn
  | .writeT0 => some writeRequest0 | .writeT1 => some (writeRequest 1 ownT1) | .writeT2 => some (writeRequest 2 ownT2)
  | .writeT3 => some (writeRequest 3 ownT3) | .writeT4 => some (writeRequest 4 ownT4)
  | .writeT5 => some (writeRequest 5 ownT5) | .writeT6 => some (writeRequest 6 ownT6)
  | .writeT7 => some (writeRequest 7 ownT7) | .writeT8 => some (writeRequest 8 ownT8)
  | .writeT9 => some (writeRequest 9 ownT9) | .writeT10 => some (writeRequest 10 ownT10)
  | .writeT11 => some (writeRequest 11 ownT11) | .writeT12 => some (writeRequest 12 ownT12)
  | .writeT13 => some (writeRequest 13 ownT13) | .writeT14 => some (writeRequest 14 ownT14)
  | .exchange => some ownExchange
  | .readStats => some ownReadStats | .readStatsClear => some ownReadStatsClear
  | .restartSweep => some ownRestartSweep | .restartSettlementQueue => some ownRestartSettlement
  | .restartStatistics => some ownRestartStatistics | .reset => some ownReset
  | .startAllocation => some ownStart | .stopAllocation => some ownStop | .setMode => some ownSetMode
  | .trip => some ownTrip | .resume => some ownResume
  | .startSweep => some ownStartSweep | .stopSweep => some ownStopSweep | .closePeriod => some ownClosePeriod
  | .fetchBilling => some ownFetchBilling | .releaseBilling => some ownReleaseBilling
  | .fetchSettlement => some ownFetchSettlement | .releaseSettlement => some ownReleaseSettlement
  | _ => none

theorem exec_ownerOf {c : Instr} {owner : Request → List Byte → State → Answer} (own : ownerOf c = some owner) :
    exec c s = act s (serve c owner) := by
  cases c <;> cases own <;> rfl

theorem writeCommand_owned (operands : List Byte) : (ownerOf (writeCommand operands)).isSome = true := by
  unfold writeCommand
  split <;> rfl

theorem commandOf_owned (payload : List Byte) : (ownerOf (commandOf payload)).isSome = true := by
  unfold commandOf
  dsimp only
  split
  case h_3 => exact writeCommand_owned _
  case h_5 => split <;> rfl
  case h_6 => repeat' split
              all_goals rfl
  all_goals rfl

theorem writeCommand_listed (operands : List Byte) : writeCommand operands ≠ .badRequestCode := by
  unfold writeCommand
  split <;> exact fun h => nomatch h

/-- R174: the row of each code. -/
theorem commandOf_cons (code : Byte) (operands : List Byte) : commandOf (code :: operands) =
    match some code.toNat with
    | some 1 => .read
    | some 2 => .readOn
    | some 3 => writeCommand operands
    | some 4 => .exchange
    | some 5 => if operands.head?.map BitVec.toNat = some 1 then .readStatsClear else .readStats
    | some 6 => if operands.head?.map BitVec.toNat = some 2 then .restartSettlementQueue
        else if operands.head?.map BitVec.toNat = some 3 then .restartStatistics else .restartSweep
    | some 7 => .reset
    | some 8 => .startAllocation
    | some 9 => .stopAllocation
    | some 10 => .setMode
    | some 11 => .trip
    | some 12 => .resume
    | some 13 => .startSweep
    | some 14 => .stopSweep
    | some 15 => .closePeriod
    | some 16 => .fetchBilling
    | some 17 => .releaseBilling
    | some 18 => .fetchSettlement
    | some 19 => .releaseSettlement
    | _ => .badRequestCode := rfl

theorem commandOf_unknown {code : Byte} (unknown : code.toNat = 0 ∨ 19 < code.toNat) (operands : List Byte) :
    commandOf (code :: operands) = .badRequestCode := by
  rw [commandOf_cons]
  split
  case h_20 => rfl
  all_goals
    rename_i same
    have := Option.some.inj same
    omega

theorem commandOf_listed {code : Byte} (low : 1 ≤ code.toNat) (high : code.toNat ≤ 19) (operands : List Byte) :
    commandOf (code :: operands) ≠ .badRequestCode := by
  rw [commandOf_cons]
  split
  case h_3 => exact writeCommand_listed _
  case h_5 => split <;> exact fun h => nomatch h
  case h_6 => repeat' split
              all_goals exact fun h => nomatch h
  case h_20 =>
    rename_i a1 a2 a3 a4 a5 a6 a7 a8 a9 a10 a11 a12 a13 a14 a15 a16 a17 a18 a19
    generalize code.toNat = n at *
    interval_cases n <;> contradiction
  all_goals exact fun h => nomatch h

/-! ### The classes -/

/-- R174: the classes that may make a request of a listed code. -/
def classesOf (n : Nat) (table : Option Nat) : List MgmtClass :=
  if n ≤ 2 ∨ (n = 5 ∧ table = some 0) then [.operator, .engineer, .billing]
  else if n = 10 ∨ n = 13 ∨ n = 14 then [.operator, .engineer]
  else if 15 ≤ n ∨ ((n = 3 ∨ n = 4) ∧ (table = some 10 ∨ table = some 11)) then [.billing]
  else [.engineer]

theorem writeClasses_eq (operands : List Byte) : writeClasses operands =
    if operands.head?.map BitVec.toNat = some 10 ∨ operands.head?.map BitVec.toNat = some 11 then [.billing]
    else [.engineer] := rfl

theorem head_zero_iff (operands : List Byte) : operands.head? = some 0 ↔ operands.head?.map BitVec.toNat = some 0 := by
  cases operands with
  | nil => simp
  | cons b tail => simp [← BitVec.toNat_inj]

theorem classesFor_listed {code : Byte} (low : 1 ≤ code.toNat) (high : code.toNat ≤ 19) (operands : List Byte) :
    classesFor (code :: operands) = classesOf code.toNat (operands.head?.map BitVec.toNat) := by
  simp only [classesFor, List.drop_succ_cons, List.drop_zero, List.head?_cons, Option.map_some, head_zero_iff, writeClasses_eq]
  generalize operands.head?.map BitVec.toNat = table
  generalize code.toNat = n at *
  interval_cases n <;> simp [classesOf]

theorem State.classOf_open {station : Byte} (unmanaged : ∀ b ∈ s.bindings, b.role.mgmtClass = none) :
    s.classOf station = some .engineer :=
  if_pos (List.all_eq_true.mpr fun b mem => by rw [unmanaged b mem]; rfl)

theorem State.classOf_managed {station : Byte} {b : Binding} (mem : b ∈ s.bindings) (managing : b.role.mgmtClass ≠ none) :
    s.classOf station = (s.admitted station).bind fun b => b.role.mgmtClass :=
  if_neg fun all => managing (Option.isNone_iff_eq_none.mp (List.all_eq_true.mp all b mem))

/-! ### Requests that are answered without effect -/

theorem Waiting.ofByte {code : Byte} {operands : List Byte} (released : s.outOfReset = true)
    (queued : s.mgmt.queue = q :: rest) (payload : q.payload = code :: operands) (slot : s.freeSlot .reply = true)
    (serving : s.mgmt.resetStage = .none) : Waiting s q rest code.toNat operands :=
  ⟨released, queued, by rw [payload, BitVec.ofNat_toNat, BitVec.setWidth_eq], slot, serving⟩

/-- R175: a request of no listed row. -/
theorem exec_unlisted {n : Nat} {operands : List Byte} (h : Waiting s q rest n operands)
    (row : commandOf q.payload = .badRequestCode) : exec .badRequestCode s = .next (answered q rest n 2 [] s) := by
  have judged : judgeRequest q (fun _ _ s => refuse .badRequest s) (s.withRequests rest) =
      refuse .badRequest (s.withRequests rest) := if_pos row
  have served := serve_waiting h fun _ _ s => refuse .badRequest s
  rw [row, judged] at served
  exact (act_running h.outOfReset _).trans (congrArg _ (served.trans (place_reply h rfl)))

/-- R175: an owner that refuses. -/
theorem exec_refuses {n : Nat} {operands : List Byte} (h : Waiting s q rest n operands) {command : Instr}
    (row : commandOf (BitVec.ofNat 8 n :: operands) = command) (known : command ≠ .badRequestCode) {c : MgmtClass}
    (cls : s.classOf q.station = some c) (listed : (classesFor (BitVec.ofNat 8 n :: operands)).contains c = true)
    {owner : Request → List Byte → State → Answer} (own : ownerOf command = some owner) {status : Status}
    (refused : status ≠ .done) (answer : owner q operands (s.withRequests rest) = refuse status (s.withRequests rest)) :
    exec (commandOf q.payload) s = .next (answered q rest n status.code [] s) := by
  have place : commandOf q.payload = command := h.row.trans row
  have judged : judgeRequest q owner (s.withRequests rest) = refuse status (s.withRequests rest) := by
    refine (if_neg (place ▸ known)).trans ((if_pos (h.may cls listed)).trans ?_)
    rw [h.payload]
    exact answer
  have noEnd : (commandOf q.payload == .reset && (refuse status (s.withRequests rest)).status == .done) = false := by
    rw [Bool.and_eq_false_iff]
    exact .inr (beq_eq_false_iff_ne.mpr refused)
  have served : serve (commandOf q.payload) owner s = answered q rest n status.code [] s := by
    rw [serve_waiting h, judged]
    dsimp only
    rw [noEnd]
    exact place_reply h rfl
  rw [exec_ownerOf (place ▸ own), act_running h.outOfReset, served]

/-- R175: operands of a wrong length or form. -/
theorem exec_malformed {n : Nat} {operands : List Byte} (h : Waiting s q rest n operands) {c : MgmtClass}
    (cls : s.classOf q.station = some c) (command : Instr) (row : commandOf (BitVec.ofNat 8 n :: operands) = command)
    (known : command ≠ .badRequestCode) (listed : (classesFor (BitVec.ofNat 8 n :: operands)).contains c = true)
    {owner : Request → List Byte → State → Answer} (own : ownerOf command = some owner)
    (answer : owner q operands (s.withRequests rest) = refuse .badRequest (s.withRequests rest)) :
    exec (commandOf q.payload) s = .next (answered q rest n 2 [] s) :=
  exec_refuses h row known cls listed own (status := .badRequest) (by decide) answer

/-! ### Operands of a wrong length or form -/

theorem withoutOperands_given (owner : State → Answer) {operands : List Byte} (given : operands.length ≠ 0) :
    withoutOperands owner operands s = refuse .badRequest s :=
  if_neg fun none_ => given (by rw [none_]; rfl)

theorem ownRead_malformed {operands : List Byte} (bad : operands.length ≠ 3 ∨
    (operands.getD 2 0).toNat = 0 ∨ 8 < (operands.getD 2 0).toNat) : ownRead q operands s = refuse .badRequest s := by
  rcases operands with _ | ⟨table, _ | ⟨index, _ | ⟨count, _ | _⟩⟩⟩
  case cons.cons.cons.nil =>
    refine if_pos ?_
    rcases bad with len | zero | many
    · exact absurd rfl len
    · exact .inl (by simpa using zero)
    · exact .inr (by simpa using many)
  all_goals rfl

theorem ownReadOn_malformed {operands : List Byte} (bad : operands.length ≠ 1 ∨
    (operands.getD 0 0).toNat = 0 ∨ 8 < (operands.getD 0 0).toNat) : ownReadOn q operands s = refuse .badRequest s := by
  rcases operands with _ | ⟨count, _ | _⟩
  case cons.nil =>
    refine if_pos ?_
    rcases bad with len | zero | many
    · exact absurd rfl len
    · exact .inl (by simpa using zero)
    · exact .inr (by simpa using many)
  all_goals rfl

theorem ownSetMode_malformed {operands : List Byte} (bad : operands.length ≠ 1) :
    ownSetMode q operands s = refuse .badRequest s := by
  rcases operands with _ | ⟨code, _ | ⟨second, more⟩⟩
  · rfl
  · exact absurd rfl bad
  · simp [ownSetMode]

theorem ownFetchBilling_malformed {operands : List Byte} (bad : operands.length ≠ 1 ∨ 1 < (operands.getD 0 0).toNat) :
    ownFetchBilling q operands s = refuse .badRequest s := by
  rcases operands with _ | ⟨part, _ | _⟩
  case cons.nil =>
    refine if_pos ?_
    rcases bad with len | high
    · exact absurd rfl len
    · simpa using high
  all_goals rfl

theorem ownExchange_unlisted {operands : List Byte} (long : 3 ≤ operands.length) {table : Nat}
    (named : writeTable operands = some table) (unlisted : entrySize table = none) :
    ownExchange q operands s = refuse .outOfRange s := by
  rw [ownExchange, named, Option.bind_some, unlisted]
  exact if_neg (Nat.not_lt.mpr long)

theorem ownExchange_malformed {operands : List Byte} {table size : Nat} (named : writeTable operands = some table)
    (sized : entrySize table = some size) (bad : operands.length ≠ 3 + 2 * size) :
    ownExchange q operands s = refuse .badRequest s := by
  rw [ownExchange, named, Option.bind_some, sized]
  exact if_pos bad

theorem ownExchange_short {operands : List Byte} (short : operands.length < 3) :
    ownExchange q operands s = refuse .badRequest s := by
  unfold ownExchange
  split
  · exact if_pos short
  · exact if_pos (by simp only [writePrefix]; omega)

theorem writeRequest_malformed {table : Nat} {size : Nat} (sized : entrySize table = some size)
    (own : Nat → List (List Byte) → State → Answer) {operands : List Byte}
    (bad : operands.length < 3 + size ∨ (operands.length - 3) % size ≠ 0) :
    writeRequest table own q operands s = refuse .badRequest s := by
  rw [writeRequest, sized]
  exact if_pos bad

/-- R179: the owner of a WRITE that names a table. -/
theorem ownerOf_writeCommand {operands : List Byte} {table : Nat} (named : writeTable operands = some table) :
    ownerOf (writeCommand operands) = if table = 0 ∨ 14 < table then some writeRequest0
      else some (writeRequest table (ownTable table)) := by
  unfold writeCommand
  rw [named]
  by_cases known : table ≤ 14
  · interval_cases table <;> rfl
  · rw [if_pos (by omega)]
    split
    case h_15 => rfl
    all_goals
      rename_i same
      have := Option.some.inj same
      omega

theorem entrySize_listed {table : Nat} (listed : table ≤ 14) :
    entrySize table = some ([4, 14, 2, 23, 20, 13, 19, 13, 11, 7, 1, 4, 4, 8, 3].getD table 0) := by
  interval_cases table <;> rfl

theorem entrySize_unlisted {table : Nat} (unlisted : 14 < table) : entrySize table = none := by
  obtain ⟨k, rfl⟩ := Nat.exists_eq_add_of_lt unlisted
  rw [show 14 + k + 1 = k + 15 by omega]
  rfl

/-- R179: a WRITE whose operands are no table number, index and whole entries. -/
theorem write_malformed {operands : List Byte} (bad : operands.length < 3 ∨ ((operands.getD 0 0).toNat ≤ 14 ∧
    (operands.length < 3 + [4, 14, 2, 23, 20, 13, 19, 13, 11, 7, 1, 4, 4, 8, 3].getD (operands.getD 0 0).toNat 0 ∨
      (operands.length - 3) % [4, 14, 2, 23, 20, 13, 19, 13, 11, 7, 1, 4, 4, 8, 3].getD (operands.getD 0 0).toNat 0 ≠ 0))) :
    ∃ owner, ownerOf (writeCommand operands) = some owner ∧ owner q operands s = refuse .badRequest s := by
  cases operands with
  | nil => exact ⟨writeRequest0, rfl, rfl⟩
  | cons b tail =>
    have own := ownerOf_writeCommand (operands := b :: tail) rfl
    simp only [List.getD_cons_zero] at bad
    by_cases listed : b.toNat ≤ 14
    · have sized := entrySize_listed listed
      have long : (b :: tail).length < 3 + [4, 14, 2, 23, 20, 13, 19, 13, 11, 7, 1, 4, 4, 8, 3].getD b.toNat 0 ∨
          ((b :: tail).length - 3) % [4, 14, 2, 23, 20, 13, 19, 13, 11, 7, 1, 4, 4, 8, 3].getD b.toNat 0 ≠ 0 :=
        bad.elim (fun short => .inl (by omega)) (fun h => h.2)
      by_cases zero : b.toNat = 0
      · rw [if_pos (.inl zero)] at own
        rw [zero] at sized long
        have first : writeTable (b :: tail) = some 0 := congrArg some zero
        exact ⟨_, own, (if_pos first).trans (writeRequest_malformed sized _ long)⟩
      · rw [if_neg (by omega)] at own
        exact ⟨_, own, writeRequest_malformed sized _ long⟩
    · rw [if_pos (by omega)] at own
      have other : ¬ writeTable (b :: tail) = some 0 := fun same => listed (by
        have := Option.some.inj same
        omega)
      exact ⟨_, own, (if_neg other).trans (if_pos (bad.resolve_right fun h => listed h.1))⟩

theorem write_unlisted {operands : List Byte} (long : 3 ≤ operands.length) (unlisted : 14 < (operands.getD 0 0).toNat) :
    ∃ owner, ownerOf (writeCommand operands) = some owner ∧ owner q operands s = refuse .outOfRange s := by
  cases operands with
  | nil => exact absurd long (by decide)
  | cons b tail =>
    rw [List.getD_cons_zero] at unlisted
    have own := ownerOf_writeCommand (operands := b :: tail) rfl
    rw [if_pos (.inr unlisted)] at own
    have other : ¬ writeTable (b :: tail) = some 0 := fun same => by
      have : b.toNat = 0 := Option.some.inj same
      omega
    exact ⟨_, own, (if_neg other).trans (if_neg (Nat.not_lt.mpr long))⟩

theorem exchange_malformed {operands : List Byte} (bad : operands.length < 3 ∨ ((operands.getD 0 0).toNat ≤ 14 ∧
    operands.length ≠ 3 + 2 * [4, 14, 2, 23, 20, 13, 19, 13, 11, 7, 1, 4, 4, 8, 3].getD (operands.getD 0 0).toNat 0)) :
    ownExchange q operands s = refuse .badRequest s := by
  rcases bad with short | ⟨listed, size⟩
  · exact ownExchange_short short
  · cases operands with
    | nil => rfl
    | cons b tail => exact ownExchange_malformed (operands := b :: tail) rfl (entrySize_listed listed) size

theorem exchange_unlisted {operands : List Byte} (long : 3 ≤ operands.length) (unlisted : 14 < (operands.getD 0 0).toNat) :
    ownExchange q operands s = refuse .outOfRange s := by
  cases operands with
  | nil => exact absurd long (by decide)
  | cons b tail => exact ownExchange_unlisted (operands := b :: tail) long rfl (entrySize_unlisted unlisted)

end Sys2Proof.Machine

namespace Sys2Proof.Proofs
open Sys2Proof.Machine

/-- Settles O46: the class by the station's entry, a refusal by the code and the classes that may make it. -/
theorem requestsRefused : Obligations.RequestsRefused := by
  refine ⟨fun s station => ?_, fun s q rest released queued => ?_⟩
  · intro management
    have managed : ∀ b : Binding, management b ↔ b.role.mgmtClass ≠ none := by
      intro b
      simp only [management]
      cases b.role <;> decide
    refine ⟨fun none_ => State.classOf_open fun b mem => by_contra fun some_ => none_ b mem ((managed b).mpr some_), ?_⟩
    rintro ⟨m, mem, managing⟩
    rw [State.classOf_managed mem ((managed m).mp managing)]
    refine ⟨fun unbound => by rw [admitted_unbound unbound]; rfl, fun b bound own only => ?_⟩
    rw [admitted_bound bound own only]
    refine ⟨fun out => ?_, fun admitted role => ?_, fun admitted role => ?_, fun admitted role => ?_⟩
    · by_cases ignored : b.ignore = true
      · rw [if_pos ignored]
        rfl
      · rw [if_neg ignored]
        exact by_contra fun some_ => (out.resolve_left ignored) ((managed b).mpr some_)
    all_goals
      rw [admitted, if_neg (by decide), Option.bind_some, role]
      rfl
  · intro row
    obtain ⟨owner, own⟩ := Option.isSome_iff_exists.mp (commandOf_owned q.payload)
    refine ⟨fun held => ?_, fun code operands payload slot serving => ?_⟩
    · have blocked : canServe s = false := by
        rw [canServe, Bool.and_eq_false_iff]
        exact held.imp id beq_eq_false_iff_ne.mpr
      exact (exec_ownerOf own).trans ((act_running released _).trans (congrArg _ (serve_waits blocked row owner)))
    · intro n table classes
      have h := Waiting.ofByte released queued payload slot serving
      refine ⟨fun unknown => exec_unlisted h (payload ▸ commandOf_unknown unknown operands), fun low high denied => ?_⟩
      have listed : row ≠ .badRequestCode := by
        simp only [row, payload]
        exact commandOf_listed low high operands
      have forbidden : permitted q.payload (s.classOf q.station) = false := by
        rw [payload]
        cases cls : s.classOf q.station with
        | none => rfl
        | some c =>
          have absent : c ∉ classesFor (code :: operands) := by
            rw [classesFor_listed low high]
            exact fun mem => denied c mem cls
          simpa [permitted] using absent
      rw [exec_ownerOf own]
      exact serve_refused h rfl listed forbidden owner

/-- Settles O47: each row's owner refuses the operands its request does not have. -/
theorem malformedRefused : Obligations.MalformedRefused := by
  intro s q rest n operands c h cls len first sizes size billing engineer badCount malformed
  have writes : (if billing then c = .billing else engineer) → (writeClasses operands).contains c = true := by
    intro may
    have head : (operands.head?.map BitVec.toNat = some 10 ∨ operands.head?.map BitVec.toNat = some 11) ↔ billing := by
      simp only [billing, len, first]
      cases operands <;> simp
    rw [writeClasses_eq]
    split_ifs at may with b
    · rw [if_pos (head.mpr b), may]
      rfl
    · rw [if_neg (mt head.mp b), show c = .engineer from may]
      rfl
  refine ⟨?_, fun code may long unlisted => ?_⟩
  · rintro (⟨rfl, bad⟩ | ⟨rfl, bad⟩ | ⟨rfl, may, bad⟩ | ⟨rfl, may, bad⟩ | ⟨rfl, may, not0, not1⟩ | ⟨rfl, may, not1, not2, not3⟩ |
      ⟨code, may, bad⟩ | ⟨rfl, may, bad⟩ | ⟨code, may, bad⟩ | ⟨code, may, bad⟩ | ⟨rfl, may, bad⟩ | ⟨rfl, may, bad⟩ |
      ⟨rfl, may, bad⟩)
    · exact exec_malformed h cls .read rfl (by decide) (by cases c <;> rfl) rfl (ownRead_malformed bad)
    · exact exec_malformed h cls .readOn rfl (by decide) (by cases c <;> rfl) rfl (ownReadOn_malformed bad)
    · obtain ⟨owner, own, answer⟩ := write_malformed (q := q) (s := s.withRequests rest) bad
      exact exec_malformed h cls _ rfl (writeCommand_listed _) (writes may) own answer
    · exact exec_malformed h cls .exchange rfl (by decide) (writes may) rfl (exchange_malformed bad)
    · have listed : (classesFor (BitVec.ofNat 8 5 :: operands)).contains c = true := by
        rcases may with engineering | zero
        · rw [show c = .engineer from engineering]
          change (if operands.head? = some 0 then [MgmtClass.operator, .engineer, .billing] else [.engineer]).contains
            MgmtClass.engineer = true
          split <;> rfl
        · change (if operands.head? = some 0 then [MgmtClass.operator, .engineer, .billing] else [.engineer]).contains c = true
          rw [if_pos zero]
          cases c <;> rfl
      by_cases clear : operands.head?.map BitVec.toNat = some 1
      · exact exec_malformed h cls .readStatsClear (if_pos clear) (by decide) listed rfl (if_neg not1)
      · exact exec_malformed h cls .readStats (if_neg clear) (by decide) listed rfl (if_neg not0)
    · by_cases queue : operands.head?.map BitVec.toNat = some 2
      · exact exec_malformed h cls .restartSettlementQueue (if_pos queue) (by decide) (may ▸ rfl) rfl (if_neg not2)
      · by_cases counters : operands.head?.map BitVec.toNat = some 3
        · exact exec_malformed h cls .restartStatistics ((if_neg queue).trans (if_pos counters)) (by decide) (may ▸ rfl) rfl
            (if_neg not3)
        · exact exec_malformed h cls .restartSweep ((if_neg queue).trans (if_neg counters)) (by decide) (may ▸ rfl) rfl
            (if_neg not1)
    · have given := fun owner => withoutOperands_given (s := s.withRequests rest) owner bad
      rcases code with rfl | rfl | rfl | rfl | rfl
      · exact exec_malformed h cls .reset rfl (by decide) (may ▸ rfl) rfl (given _)
      · exact exec_malformed h cls .startAllocation rfl (by decide) (may ▸ rfl) rfl (given _)
      · exact exec_malformed h cls .stopAllocation rfl (by decide) (may ▸ rfl) rfl (given _)
      · exact exec_malformed h cls .trip rfl (by decide) (may ▸ rfl) rfl (given _)
      · exact exec_malformed h cls .resume rfl (by decide) (may ▸ rfl) rfl (given _)
    · exact exec_malformed h cls .setMode rfl (by decide) (may.elim (fun e => e ▸ rfl) fun e => e ▸ rfl) rfl (ownSetMode_malformed bad)
    · have given := fun owner => withoutOperands_given (s := s.withRequests rest) owner bad
      rcases code with rfl | rfl
      · exact exec_malformed h cls .startSweep rfl (by decide) (may.elim (fun e => e ▸ rfl) fun e => e ▸ rfl) rfl (given _)
      · exact exec_malformed h cls .stopSweep rfl (by decide) (may.elim (fun e => e ▸ rfl) fun e => e ▸ rfl) rfl (given _)
    · have given := fun owner => withoutOperands_given (s := s.withRequests rest) owner bad
      rcases code with rfl | rfl
      · exact exec_malformed h cls .closePeriod rfl (by decide) (may ▸ rfl) rfl (given _)
      · exact exec_malformed h cls .fetchSettlement rfl (by decide) (may ▸ rfl) rfl (given _)
    · exact exec_malformed h cls .fetchBilling rfl (by decide) (may ▸ rfl) rfl (ownFetchBilling_malformed bad)
    · exact exec_malformed h cls .releaseBilling rfl (by decide) (may ▸ rfl) rfl (if_pos bad)
    · exact exec_malformed h cls .releaseSettlement rfl (by decide) (may ▸ rfl) rfl (if_pos bad)
  · have plain : ¬ billing := fun b => by
      have : first = 10 ∨ first = 11 := b.2
      omega
    have listed := writes ((if_neg plain).mpr may)
    rcases code with rfl | rfl
    · obtain ⟨owner, own, answer⟩ := write_unlisted (q := q) (s := s.withRequests rest) long unlisted
      exact exec_refuses h rfl (writeCommand_listed _) cls listed own (status := .outOfRange) (by decide) answer
    · exact exec_refuses h (command := .exchange) rfl (by decide) cls listed rfl (status := .outOfRange) (by decide)
        (exchange_unlisted long unlisted)

end Sys2Proof.Proofs
end

section
/-! Reading: the bytes of every table and record, and the entries a READ and a READ-ON return. -/

namespace Sys2Proof.Machine

variable {s : State} {q : Request} {rest : List Request}

/-! ### Fields -/

theorem field_round {n v : Nat} (small : v < 256 ^ n) : (field n v).length = n ∧ unbe (field n v) = v := by
  rw [field_small small]
  exact ⟨be_length n v, by rw [unbe_be, Nat.mod_eq_of_lt small]⟩

theorem signedField_eight {v : Int} (low : -9223372036854775808 ≤ v) (high : v ≤ 9223372036854775807) :
    toSigned 8 (unbe (signedField 8 v)) = v := by
  have fits : -(2 ^ (8 * 8 - 1) : Int) ≤ v ∧ v < 2 ^ (8 * 8 - 1) := by
    norm_num
    omega
  rw [signedField, if_pos fits, unbe_be, toSigned]
  norm_num
  split <;> omega

/-! ### As many whole entries as fit -/

/-- R177: the entries that fit are a beginning of the list, and the next one does not fit. -/
theorem takeFitting_spec (room : Nat) (l : List (List Byte)) :
    takeFitting room l = l.take (takeFitting room l).length ∧ (takeFitting room l).length ≤ l.length ∧
      (takeFitting room l).flatten.length ≤ room ∧
      ((takeFitting room l).length < l.length → room < (l.take ((takeFitting room l).length + 1)).flatten.length) := by
  induction l generalizing room with
  | nil => simp [takeFitting]
  | cons e es ih =>
    by_cases fits : e.length ≤ room
    · obtain ⟨whole, short, inside, next⟩ := ih (room - e.length)
      have step : takeFitting room (e :: es) = e :: takeFitting (room - e.length) es := if_pos fits
      rw [step]
      refine ⟨by rw [List.length_cons, List.take_succ_cons, ← whole], by simpa using short, ?_, fun more => ?_⟩
      · rw [List.flatten_cons, List.length_append]
        omega
      · have := next (by simpa using more)
        rw [List.length_cons, List.take_succ_cons, List.flatten_cons, List.length_append]
        omega
    · have none_ : takeFitting room (e :: es) = [] := if_neg fits
      rw [none_]
      simpa using fits

/-- R177: how many entries a READ returns. -/
def readCount (count index : Nat) (es : List (List Byte)) : Nat :=
  (takeFitting 114 ((es.drop index).take count)).length

theorem readCount_spec (count index : Nat) (es : List (List Byte)) :
    readCount count index es ≤ min count (es.length - index) ∧
      ((es.drop index).take (readCount count index es)).flatten.length ≤ 114 ∧
      (readCount count index es < min count (es.length - index) →
        114 < ((es.drop index).take (readCount count index es + 1)).flatten.length) ∧
      takeFitting 114 ((es.drop index).take count) = (es.drop index).take (readCount count index es) := by
  obtain ⟨whole, short, inside, next⟩ := takeFitting_spec 114 ((es.drop index).take count)
  have length : ((es.drop index).take count).length = min count (es.length - index) := by simp
  rw [length] at short next
  have taken : takeFitting 114 ((es.drop index).take count) = (es.drop index).take (readCount count index es) := by
    rw [List.take_take] at whole
    rw [whole]
    refine congrArg (fun n => (es.drop index).take n) ?_
    have : readCount count index es ≤ count := by
      change (takeFitting 114 ((es.drop index).take count)).length ≤ count
      omega
    exact Nat.min_eq_left this
  refine ⟨short, taken ▸ inside, fun more => ?_, taken⟩
  have beyond : 114 < (((es.drop index).take count).take (readCount count index es + 1)).flatten.length := next more
  rwa [List.take_take, Nat.min_eq_left (by omega)] at beyond

theorem withRequests_tableEntries (table : Nat) : tableEntries (s.withRequests rest) table = tableEntries s table := rfl

/-- R177: the answer of a read, its fields unsigned bytes. -/
theorem readEntriesFrom_eq (station : Byte) {table index count : Nat} (es : List (List Byte)) (table_ : table < 256)
    (index_ : index < 256) (few : count ≤ 8) :
    let n := readCount count index es
    let others := s.mgmt.cursors.filter fun x => x.station != station
    readEntriesFrom station table index count es (s.withRequests rest) = ⟨.done,
      be 1 table ++ be 1 index ++ be 1 n ++ [if es.length ≤ index + n then 1 else 0] ++ ((es.drop index).take n).flatten,
      ({ s with mgmt := { s.mgmt with cursors := (if 4 ≤ others.length then others.drop 1 else others) ++
        [{ station := station, table := table, index := index + n }] } } : State).withRequests rest⟩ := by
  intro n others
  obtain ⟨short, -, -, taken⟩ := readCount_spec count index es
  have one : ∀ v, v < 256 → field 1 v = be 1 v := fun v low => field_small (by omega)
  have length : (takeFitting entryRoom ((es.drop index).take count)).length = n := rfl
  simp only [readEntriesFrom, length]
  rw [one table table_, one index index_, one n (by omega), ← taken, flagField]
  simp only [decide_eq_true_eq]
  rfl

end Sys2Proof.Machine

namespace Sys2Proof.Proofs
open Sys2Proof.Machine

/-- Settles O48. -/
theorem reads : Obligations.Reads := by
  refine ⟨fun n v small => field_round small, fun v => ⟨fun low high => ?_, fun low high => signedField_eight low high⟩,
    fun zeros write => ⟨rfl, fun a => rfl⟩, fun s => ?_, fun s q rest c count cls positive few => ?_⟩
  · rw [signedField_four ⟨low, high⟩, toSigned_setpointBytes low high]
  · intro flag mode stamp schedule settings age kw tables
    refine ⟨?_, rfl, rfl, rfl, ?_, ?_, ?_, ?_, rfl, ?_, rfl, rfl, rfl, ?_, rfl, rfl, ?_, ?_, ?_, ?_, ?_, ?_, ?_, ?_, ?_⟩
    · refine congrArg some (List.map_congr_left fun x _ => ?_)
      cases x <;> rfl
    · refine congrArg some (List.map_congr_left fun x _ => rfl)
    · refine congrArg some (List.map_congr_left fun x _ => rfl)
    · refine congrArg some (List.map_congr_left fun x _ => rfl)
    · rfl
    · refine congrArg some (List.map_congr_left fun x _ => ?_)
      cases x <;> rfl
    · rfl
    · intro k high
      unfold tableEntries
      split
      case h_24 => rfl
      all_goals omega
    · rfl
    · intro m plant pair
      have numbers : List.range 6 = [0, 1, 2, 3, 4, 5] := rfl
      have groups : tableEntries s 17 = some (summaryGroups s) := rfl
      rw [groups]
      simp only [summaryGroups, kwFields, numbers, pair, kw, List.flatMap_cons, List.flatMap_nil, List.append_nil,
        List.append_assoc]
      rfl
    · refine congrArg some (List.map_congr_left fun r _ => ?_)
      dsimp only
      rw [registryEntry, State.readRecord]
      split <;> rfl
    · rfl
    · intro w holder left moment
      have remaining : remainingSeconds s =
          left / 1000 + if left % 1000 ≠ 0 ∧ Config.remainingRoundsUp left = true then 1 else 0 := rfl
      rw [← remaining]
      rfl
    · rfl
    · have scheduled : ∀ x, writeT9Entry x = schedule x := fun x => by cases x <;> rfl
      have record : tableEntries s 22 = some [blockRecord s] := rfl
      rw [record]
      simp only [blockRecord, scheduled, blockFlagFields, ← List.append_assoc]
      rfl
    · refine congrArg some (List.map_congr_left fun a _ => ?_)
      have reading : readingField = presentField 10 fun r : ReadingStamp =>
          field 4 r.register ++ field 2 r.stamp.day ++ field 4 r.stamp.seconds :=
        congrArg (presentField 10) (funext fun r => (List.append_assoc _ _ _).symm)
      rw [accountEntry, reading]
      rfl
  · intro returns
    have answers : ∀ (command : Instr) (code table index : Nat) (es : List (List Byte)), table < 256 → index < 256 →
        (∀ data t, readEntriesFrom q.station table index count.toNat es (s.withRequests rest) =
          ⟨.done, data, t.withRequests rest⟩ → exec command s = .next (answered q rest code 0 data t)) →
        returns command code table index es := by
      intro command code table index es table_ index_ served
      obtain ⟨short, inside, next, -⟩ := readCount_spec count.toNat index es
      exact ⟨readCount count.toNat index es, short, inside, next,
        served _ _ (readEntriesFrom_eq q.station es table_ index_ few)⟩
    have counted : ¬ (count.toNat < 1 ∨ 8 < count.toNat) := by omega
    refine ⟨fun table index h => ?_, fun h x es cursor table_ index_ found => ?_⟩
    · have listed : (classesFor [BitVec.ofNat 8 1, table, index, count]).contains c = true := by cases c <;> rfl
      have served := serve_answers .read ownRead h rfl (by decide) (by decide) cls listed
      have owner : ownRead q [table, index, count] (s.withRequests rest) = match tableEntries s table.toNat with
          | none => refuse .outOfRange (s.withRequests rest)
          | some entries =>
            if entries.length ≤ index.toNat then refuse .outOfRange (s.withRequests rest)
            else readEntriesFrom q.station table.toNat index.toNat count.toNat entries (s.withRequests rest) :=
        if_neg counted
      refine ⟨fun absent => served .outOfRange [] s (by rw [owner, absent]; rfl), fun es found => ⟨fun past => ?_, fun inside => ?_⟩⟩
      · refine served .outOfRange [] s ?_
        rw [owner, found]
        exact if_pos past
      · refine answers _ _ _ _ _ table.isLt index.isLt fun data t answer => served .done data t ?_
        rw [owner, found]
        exact (if_neg (Nat.not_le.mpr inside)).trans answer
    · have listed : (classesFor [BitVec.ofNat 8 2, count]).contains c = true := by cases c <;> rfl
      have served := serve_answers .readOn ownReadOn h rfl (by decide) (by decide) cls listed
      refine answers _ _ _ _ _ table_ index_ fun data t answer => served .done data t ?_
      have own : cursorOf (s.withRequests rest) q.station = x := cursor.symm
      refine (if_neg counted).trans ?_
      rw [own, withRequests_tableEntries, found]
      exact answer

end Sys2Proof.Proofs
end

section
/-! Writing: what each table's check of an entry's fields says, and how a WRITE to a plain table is answered. -/

namespace Sys2Proof.Machine

variable {s : State} {q : Request} {rest : List Request}

/-! ### Codes -/

theorem govModeOfCode_code (m : GovMode) : govModeOfCode m.code = some m := by cases m <;> rfl

theorem govModeOfCode_some {c : Nat} {m : GovMode} (read : govModeOfCode c = some m) : c = m.code := by
  unfold govModeOfCode at read
  split at read <;> cases read <;> rfl

theorem sweepModeOfCode_code (m : SweepMode) : sweepModeOfCode m.code = some m := by cases m <;> rfl

theorem sweepModeOfCode_some {c : Nat} {m : SweepMode} (read : sweepModeOfCode c = some m) : c = m.code := by
  unfold sweepModeOfCode at read
  split at read <;> cases read <;> rfl

theorem boolOfCode_flag (b : Bool) : boolOfCode (if b then 1 else 0) = some b := by cases b <;> rfl

theorem boolOfCode_some {c : Nat} {b : Bool} (read : boolOfCode c = some b) : c = if b then 1 else 0 := by
  unfold boolOfCode at read
  split at read <;> cases read <;> rfl

theorem toSigned_unsigned32 {v : Int} (fits : signedFits v) : toSigned 4 (unsigned32 v) = v := by
  obtain ⟨low, high⟩ := fits
  rw [toSigned_four, unsigned32]
  split <;> omega

theorem unsigned32_toSigned {n : Nat} (small : n < 4294967296) :
    unsigned32 (toSigned 4 n) = n ∧ signedFits (toSigned 4 n) := by
  rw [toSigned_four, unsigned32, signedFits]
  split <;> omega

/-! ### The checks of the tables -/

theorem inputSetting_iff {i : Nat} {f : List Nat} {e : InputSetting} (fit : fieldsFit [4, 4, 2, 4] f) :
    inputSettingOfFields i f = some e ↔ f = [unsigned32 e.low, unsigned32 e.high, e.staleness, unsigned32 e.substitute] ∧
      signedFits e.low ∧ signedFits e.high ∧ signedFits e.substitute ∧ e.inRange i := by
  constructor
  · intro read
    unfold inputSettingOfFields at read
    split at read
    · rename_i lo hi staleness sub
      cases fit with | cons low fit => cases fit with | cons high fit => cases fit with | cons age fit =>
      cases fit with | cons substitute fit =>
      obtain ⟨lowBack, lowFits⟩ := unsigned32_toSigned low
      obtain ⟨highBack, highFits⟩ := unsigned32_toSigned high
      obtain ⟨subBack, subFits⟩ := unsigned32_toSigned substitute
      dsimp only at read
      split at read
      · rename_i range
        cases read
        exact ⟨by rw [lowBack, highBack, subBack], lowFits, highFits, subFits, range⟩
      · cases read
    · cases read
  · rintro ⟨rfl, low, high, substitute, range⟩
    simp only [inputSettingOfFields, toSigned_unsigned32 low, toSigned_unsigned32 high, toSigned_unsigned32 substitute]
    exact if_pos range

theorem sourceSetting_iff {i : Nat} {f : List Nat} {e : Nat} :
    sourceSettingOfFields i f = some e ↔ f = [e] ∧ e ≤ 40000 := by
  constructor
  · intro read
    unfold sourceSettingOfFields at read
    split at read
    · split at read
      · cases read; exact ⟨rfl, by assumption⟩
      · cases read
    · cases read
  · rintro ⟨rfl, range⟩
    exact if_pos range

theorem tariffBand_iff {i : Nat} {f : List Nat} {e : Nat} : tariffBandOfFields i f = some e ↔ f = [e] ∧ e ≤ 3 := by
  constructor
  · intro read
    unfold tariffBandOfFields at read
    split at read
    · split at read
      · cases read; exact ⟨rfl, by assumption⟩
      · cases read
    · cases read
  · rintro ⟨rfl, range⟩
    exact if_pos range

theorem price_iff {i : Nat} {f : List Nat} {e : Nat} : priceOfFields i f = some e ↔ f = [e] ∧ e ≤ 10000000 := by
  constructor
  · intro read
    unfold priceOfFields at read
    split at read
    · split at read
      · cases read; exact ⟨rfl, by assumption⟩
      · cases read
    · cases read
  · rintro ⟨rfl, range⟩
    exact if_pos range

theorem holderSetting_iff {h : Nat} {f : List Nat} {e : HolderSetting} : holderSettingOfFields h f = some e ↔
    f = [e.lowLow, e.low, e.high, e.highHigh, e.hysteresis, e.target, e.gain, e.correctionLimit, e.blowOffset,
      e.postBlow, e.maxBlow] ∧ e.inRange h := by
  have range_iff : ∀ e : HolderSetting, (e.highHigh ≤ 1000 ∧ e.hysteresis ≤ 100 ∧ e.target ≤ 1000 ∧ e.gain ≤ 10000 ∧
      e.correctionLimit ≤ 500000 ∧ e.lowLow < e.low ∧ e.low < e.high ∧ e.high < e.highHigh ∧
      e.hysteresis < e.high - e.low ∧ (if h = 0 then e.blowOffset = 0 ∧ e.postBlow = 0 ∧ e.maxBlow = 0
        else e.blowOffset ≤ 300 ∧ e.postBlow ≤ 600 ∧ 60 ≤ e.maxBlow ∧ e.maxBlow ≤ 3600)) ↔ e.inRange h := by
    intro e
    unfold HolderSetting.inRange
    by_cases zero : h = 0
    · simp only [zero, if_true]
      tauto
    · simp only [zero, if_false]
      tauto
  constructor
  · intro read
    unfold holderSettingOfFields at read
    split at read
    · obtain ⟨range, same⟩ := Option.ite_none_right_eq_some.mp read
      cases same
      exact ⟨rfl, (range_iff _).mp range⟩
    · cases read
  · rintro ⟨rfl, range⟩
    exact if_pos ((range_iff e).mpr range)

theorem boilerSetting_iff {i : Nat} {f : List Nat} {e : BoilerSetting} : boilerSettingOfFields i f = some e ↔
    f = [e.fillClass, e.fmin, e.fmax, e.weight, e.efficiency, e.mode.code, e.ramp, e.trip] ∧ e.inRange := by
  constructor
  · intro read
    refine ⟨?_, boilerSetting_inRange read⟩
    unfold boilerSettingOfFields at read
    split at read
    · split at read
      · cases read
      · rename_i mode code
        dsimp only at read
        split at read
        · cases read; rw [govModeOfCode_some code]
        · cases read
    · cases read
  · rintro ⟨rfl, range⟩
    simp only [boilerSettingOfFields, govModeOfCode_code]
    exact if_pos range

theorem turbineSetting_iff {i : Nat} {f : List Nat} {e : TurbineSetting} : turbineSettingOfFields i f = some e ↔
    f = [e.maxSteam, e.mode.code, e.ramp, e.trip] ∧ e.inRange := by
  constructor
  · intro read
    refine ⟨?_, turbineSetting_inRange read⟩
    unfold turbineSettingOfFields at read
    split at read
    · split at read
      · cases read
      · rename_i mode code
        dsimp only at read
        split at read
        · cases read; rw [govModeOfCode_some code]
        · cases read
    · cases read
  · rintro ⟨rfl, range⟩
    simp only [turbineSettingOfFields, govModeOfCode_code]
    exact if_pos range

theorem exchangerSetting_iff {i : Nat} {f : List Nat} {e : ExchangerSetting} : exchangerSettingOfFields i f = some e ↔
    f = [e.maxHeat, e.defaultRequest, e.staleness, e.mode.code, e.ramp, e.trip] ∧ e.inRange := by
  constructor
  · intro read
    refine ⟨?_, exchangerSetting_inRange read⟩
    unfold exchangerSettingOfFields at read
    split at read
    · split at read
      · cases read
      · rename_i mode code
        dsimp only at read
        split at read
        · cases read; rw [govModeOfCode_some code]
        · cases read
    · cases read
  · rintro ⟨rfl, range⟩
    simp only [exchangerSettingOfFields, govModeOfCode_code]
    exact if_pos range

theorem flareSetting_iff {i : Nat} {f : List Nat} {e : FlareSetting} : flareSettingOfFields i f = some e ↔
    f = [e.flareMax, e.mode.code, e.ramp, e.trip] ∧ e.inRange := by
  constructor
  · intro read
    refine ⟨?_, flareSetting_inRange read⟩
    unfold flareSettingOfFields at read
    split at read
    · split at read
      · cases read
      · rename_i mode code
        dsimp only at read
        split at read
        · cases read; rw [govModeOfCode_some code]
        · cases read
    · cases read
  · rintro ⟨rfl, range⟩
    simp only [flareSettingOfFields, govModeOfCode_code]
    exact if_pos range

theorem allocSetting_iff {i : Nat} {f : List Nat} {e : AllocSetting} : allocSettingOfFields i f = some e ↔
    f = [e.period, e.efficiency, e.correction, if e.topUp then 1 else 0, e.purchaseLimit] ∧ e.inRange := by
  constructor
  · intro read
    unfold allocSettingOfFields at read
    split at read
    · split at read
      · cases read
      · rename_i topUp code
        split at read
        · cases read; exact ⟨by rw [boolOfCode_some code], by assumption⟩
        · cases read
    · cases read
  · rintro ⟨rfl, range⟩
    simp only [allocSettingOfFields, boolOfCode_flag]
    exact if_pos range

theorem sweepSetting_iff {i : Nat} {f : List Nat} {e : SweepSetting} : sweepSettingOfFields i f = some e ↔
    f = [e.mode.code, e.first, e.last, e.interval, e.retryLimit] ∧ e.inRange := by
  constructor
  · intro read
    unfold sweepSettingOfFields at read
    split at read
    · split at read
      · cases read
      · rename_i mode code
        split at read
        · cases read; exact ⟨by rw [sweepModeOfCode_some code], by assumption⟩
        · cases read
    · cases read
  · rintro ⟨rfl, range⟩
    simp only [sweepSettingOfFields, sweepModeOfCode_code]
    exact if_pos range

theorem accountSetting_iff {i : Nat} {f : List Nat} {e : AccountSetting} : accountSettingOfFields i f = some e ↔
    f = [if e.enabled then 1 else 0, e.meter, e.rate] ∧ e.inRange := by
  constructor
  · intro read
    unfold accountSettingOfFields at read
    split at read
    · split at read
      · cases read
      · rename_i enabled code
        split at read
        · cases read; exact ⟨by rw [boolOfCode_some code], by assumption⟩
        · cases read
    · cases read
  · rintro ⟨rfl, range⟩
    simp only [accountSettingOfFields, boolOfCode_flag]
    exact if_pos range

theorem exportEntry_iff {i : Nat} {f : List Nat} {x : Option ExportEntry} (fit : fieldsFit [1, 4, 2] f) :
    exportEntryOfFields i f = some x ↔ match x with
      | none => f.getD 0 1 = 0
      | some e => f = [1, e.target, e.tolerance] ∧ e.target ≤ 400000 ∧ e.tolerance ≤ 50000 := by
  cases fit with | cons flagFits fit => cases fit with | cons targetFits fit => cases fit with | cons toleranceFits fit =>
  cases fit
  rename_i flag target tolerance
  simp only [exportEntryOfFields]
  cases code : boolOfCode flag with
  | none =>
    have known : ∀ b : Bool, flag ≠ if b then 1 else 0 := fun b same => by
      rw [same, boolOfCode_flag] at code
      cases code
    cases x with
    | none => simpa using known false
    | some e => simpa using fun one => absurd one (known true)
  | some b =>
    obtain rfl := boolOfCode_some code
    cases b with
    | false => cases x <;> simp
    | true =>
      cases x with
      | none => simp
      | some e =>
        obtain ⟨t, d⟩ := e
        simp only [if_true]
        constructor
        · intro read
          split at read
          · cases read; exact ⟨rfl, by assumption⟩
          · cases read
        · rintro ⟨same, range⟩
          cases same
          exact if_pos range

theorem noticeSetting_iff {i : Nat} {f : List Nat} {e : NoticeSetting} (fit : fieldsFit [1, 2] f) :
    noticeSettingOfFields s.pins.station i f = some e ↔ f = [e.destination.toNat, e.enabled.toNat] ∧ e.inRange s := by
  cases fit with | cons destFits fit => cases fit with | cons bitsFit fit =>
  cases fit
  rename_i dest bits
  have destBack : (BitVec.ofNat 8 dest).toNat = dest := Nat.mod_eq_of_lt destFits
  have bitsBack : (BitVec.ofNat 16 bits).toNat = bits := Nat.mod_eq_of_lt bitsFit
  have flagged : dest = 255 ↔ BitVec.ofNat 8 dest = 255 := by
    rw [← BitVec.toNat_inj, destBack]
    rfl
  constructor
  · intro read
    obtain ⟨range, same⟩ := Option.ite_none_left_eq_some.mp read
    cases same
    simp only [not_or, flagged, Bool.not_eq_true] at range
    exact ⟨by rw [destBack, bitsBack], range⟩
  · rintro ⟨same, flag, own, first, fourteenth, last⟩
    have destination : BitVec.ofNat 8 dest = e.destination := by
      rw [(List.cons.inj same).1, BitVec.ofNat_toNat, BitVec.setWidth_eq]
    have enabled : BitVec.ofNat 16 bits = e.enabled := by
      rw [(List.cons.inj (List.cons.inj same).2).1, BitVec.ofNat_toNat, BitVec.setWidth_eq]
    simp only [noticeSettingOfFields, flagged, destination, enabled]
    refine if_neg fun h => ?_
    rcases h with h | h | h | h | h
    · exact flag h
    · exact own h
    · exact absurd h (by rw [first]; decide)
    · exact absurd h (by rw [fourteenth]; decide)
    · exact absurd h (by rw [last]; decide)

/-! ### A WRITE to a plain table -/

theorem ownPlain_refused {α : Type} {ws : List Nat} {entryOf : Nat → List Nat → Option α} {write : List α → State → State}
    {index : Nat} {entries : List (List Byte)} (bad : readEntries ws entryOf index entries = none) :
    ownPlain ws entryOf write index entries s = refuse .invalidEntry s := by
  rw [ownPlain, bad]

theorem ownPlain_taken {α : Type} {ws : List Nat} {entryOf : Nat → List Nat → Option α} {write : List α → State → State}
    {index : Nat} {entries : List (List Byte)} {new : List α} (read : readEntries ws entryOf index entries = some new) :
    ownPlain ws entryOf write index entries s = doneWith (write new s) := by
  rw [ownPlain, read]

theorem writeCommand_congr {a b : List Byte} (same : writeTable a = writeTable b) : writeCommand a = writeCommand b := by
  rw [writeCommand, writeCommand, same]

theorem writeCommand_noReset (operands : List Byte) : writeCommand operands ≠ .reset := by
  unfold writeCommand
  split <;> exact fun h => nomatch h

/-- R174: the row of a WRITE names its table. -/
theorem commandOf_write {table : Nat} (listed : table ≤ 14) (index : Nat) (entries : List (List Byte)) :
    commandOf (BitVec.ofNat 8 3 :: writeOperands table index entries) = writeCommand (writeOperands table index entries) ∧
      writeTable (writeOperands table index entries) = some table :=
  ⟨rfl, writeTable_operands index entries (by omega)⟩

theorem writeClasses_operands {table : Nat} (listed : table ≤ 14) (index : Nat) (entries : List (List Byte)) :
    writeClasses (writeOperands table index entries) = if table = 10 ∨ table = 11 then [.billing] else [.engineer] := by
  have named := writeTable_operands index entries (show table < 256 by omega)
  rw [writeClasses, named]
  simp only [Option.some.injEq]

/-- R179: a WRITE to a table whose check says what its fields carry, and which acts on no other block. -/
theorem writeRule_plain {α : Type} {command : Instr} {table : Nat} {cls : MgmtClass} {ws : List Nat}
    {carries : State → Nat → List Nat → α → Prop} {put : State → Nat → List α → State}
    (own : Nat → List (List Byte) → State → Answer) (entryOf : State → Nat → List Nat → Option α)
    (write : Nat → List α → State → State) (listed : table ≤ 14)
    (row : writeCommand [BitVec.ofNat 8 table] = command)
    (served : ∀ s, exec command s = act s (serve command (writeRequest table own)))
    (classed : cls = if table = 10 ∨ table = 11 then .billing else .engineer)
    (widths : tableWidths table = some ws) (pos : 0 < ws.sum)
    (plain : ∀ index entries s, own index entries s = ownPlain ws (entryOf s) (write index) index entries s)
    (check : ∀ s i f a, fieldsFit ws f → (entryOf s i f = some a ↔ carries s i f a))
    (queueless : ∀ s rest, entryOf (State.withRequests s rest) = entryOf s)
    (writes : ∀ s rest index new, new ≠ [] → new.length ≤ tableLength table →
      write index new (State.withRequests s rest) = (put s index new).withRequests rest) :
    writeRule command table cls ws carries put := by
  intro s q rest index fs some_ fit small h cls'
  obtain ⟨write3, named⟩ := commandOf_write listed index (fs.map (fieldBytes ws))
  have place : writeCommand (writeOperands table index (fs.map (fieldBytes ws))) = command :=
    (writeCommand_congr (named.trans (by simp [writeTable]; omega))).trans row
  have known : command ≠ .badRequestCode := row ▸ writeCommand_listed _
  have noReset : command ≠ .reset := row ▸ writeCommand_noReset _
  have may : (classesFor (BitVec.ofNat 8 3 :: writeOperands table index (fs.map (fieldBytes ws)))).contains cls = true := by
    change (writeClasses (writeOperands table index (fs.map (fieldBytes ws)))).contains cls = true
    rw [writeClasses_operands listed, classed]
    split <;> rfl
  have answers := serve_answers command (writeRequest table own) h (write3.trans place) known noReset cls' may
  have judged := writeRequest_entries q (s.withRequests rest) own widths pos some_ fit small
  rw [plain, queueless] at judged
  refine ⟨fun past => ?_, fun inside bad => ?_, fun new inside length each => ?_⟩
  · exact (served s).trans (answers .outOfRange [] s (judged.trans (if_pos past)))
  · obtain ⟨i, f, place, none_⟩ := bad
    have refused : entryOf s (index + i) f = none := by
      cases read : entryOf s (index + i) f with
      | none => rfl
      | some a => exact absurd ((check s _ f a (fit f (List.mem_of_getElem? place))).mp read) (none_ a)
    refine (served s).trans (answers .invalidEntry [] s (judged.trans ((if_neg (Nat.not_lt.mpr inside)).trans ?_)))
    exact ownPlain_refused (readEntries_none fit ⟨i, f, place, refused⟩)
  · have read := readEntries_some (entryOf := entryOf s) (index := index) fit length fun i f a place entry =>
      (check s _ f a (fit f (List.mem_of_getElem? place))).mpr (each i f a place entry)
    refine (served s).trans (answers .done [] _ (judged.trans ((if_neg (Nat.not_lt.mpr inside)).trans ?_)))
    rw [ownPlain_taken read, doneWith, writes s rest index new (fun none_ => ?_) (by omega)]
    rw [none_] at length
    exact some_ (List.length_eq_zero_iff.mp length.symm)

theorem getLastD_single {α : Type} {new : List α} (old : α) (some_ : new ≠ []) (few : new.length ≤ 1) :
    new.getLastD old = new.headD old := by
  rcases new with _ | ⟨a, _ | ⟨b, more⟩⟩
  · exact absurd rfl some_
  · rfl
  · simp at few

end Sys2Proof.Machine

namespace Sys2Proof.Proofs
open Sys2Proof.Machine

/-- Settles O49: `writeRule_plain` with the check of each table. -/
theorem plainTablesWritten : Obligations.PlainTablesWritten := by
  refine ⟨?_, ?_, ?_, ?_, ?_, ?_⟩
  · exact writeRule_plain ownT1 (fun _ => inputSettingOfFields)
      (fun index new s => s.onTables fun t => { t with t1 := replaceFrom t.t1 index new }) (by decide) rfl (fun _ => rfl)
      rfl rfl (by decide) (fun _ _ _ => rfl) (fun _ _ _ _ fit => inputSetting_iff fit) (fun _ _ => rfl) fun _ _ _ _ _ _ => rfl
  · exact writeRule_plain ownT2 (fun _ => sourceSettingOfFields)
      (fun index new s => s.onTables fun t => { t with t2 := replaceFrom t.t2 index new }) (by decide) rfl (fun _ => rfl)
      rfl rfl (by decide) (fun _ _ _ => rfl) (fun _ _ _ _ _ => sourceSetting_iff) (fun _ _ => rfl) fun _ _ _ _ _ _ => rfl
  · exact writeRule_plain ownT3 (fun _ => holderSettingOfFields)
      (fun index new s => s.onTables fun t => { t with t3 := replaceFrom t.t3 index new }) (by decide) rfl (fun _ => rfl)
      rfl rfl (by decide) (fun _ _ _ => rfl) (fun _ _ _ _ _ => holderSetting_iff) (fun _ _ => rfl) fun _ _ _ _ _ _ => rfl
  · exact writeRule_plain ownT9 (fun _ => exportEntryOfFields)
      (fun index new s => s.onTables fun t => { t with t9 := replaceFrom t.t9 index new }) (by decide) rfl (fun _ => rfl)
      rfl rfl (by decide) (fun _ _ _ => rfl) (fun _ _ _ _ fit => exportEntry_iff fit) (fun _ _ => rfl) fun _ _ _ _ _ _ => rfl
  · exact writeRule_plain ownT10 (fun _ => tariffBandOfFields)
      (fun index new s => s.onTables fun t => { t with t10 := replaceFrom t.t10 index new }) (by decide) rfl (fun _ => rfl)
      rfl rfl (by decide) (fun _ _ _ => rfl) (fun _ _ _ _ _ => tariffBand_iff) (fun _ _ => rfl) fun _ _ _ _ _ _ => rfl
  · exact writeRule_plain ownT11 (fun _ => priceOfFields)
      (fun index new s => s.onTables fun t => { t with t11 := replaceFrom t.t11 index new }) (by decide) rfl (fun _ => rfl)
      rfl rfl (by decide) (fun _ _ _ => rfl) (fun _ _ _ _ _ => price_iff) (fun _ _ => rfl) fun _ _ _ _ _ _ => rfl

/-- Settles O50: `writeRule_plain` with the check of each table; a table of one entry takes the one written. -/
theorem plantTablesWritten : Obligations.PlantTablesWritten := by
  refine ⟨?_, ?_, ?_, ?_, ?_, ?_, ?_⟩
  · exact writeRule_plain ownT4 (fun _ => boilerSettingOfFields)
      (fun index new s => s.onTables fun t => { t with t4 := replaceFrom t.t4 index new }) (by decide) rfl (fun _ => rfl)
      rfl rfl (by decide) (fun _ _ _ => rfl) (fun _ _ _ _ _ => boilerSetting_iff) (fun _ _ => rfl) fun _ _ _ _ _ _ => rfl
  · exact writeRule_plain ownT5 (fun _ => turbineSettingOfFields)
      (fun index new s => s.onTables fun t => { t with t5 := replaceFrom t.t5 index new }) (by decide) rfl (fun _ => rfl)
      rfl rfl (by decide) (fun _ _ _ => rfl) (fun _ _ _ _ _ => turbineSetting_iff) (fun _ _ => rfl) fun _ _ _ _ _ _ => rfl
  · exact writeRule_plain ownT6 (fun _ => exchangerSettingOfFields)
      (fun index new s => s.onTables fun t => { t with t6 := replaceFrom t.t6 index new }) (by decide) rfl (fun _ => rfl)
      rfl rfl (by decide) (fun _ _ _ => rfl) (fun _ _ _ _ _ => exchangerSetting_iff) (fun _ _ => rfl) fun _ _ _ _ _ _ => rfl
  · exact writeRule_plain ownT7 (fun _ => flareSettingOfFields)
      (fun _ new s => s.onTables fun t => { t with t7 := new.getLastD t.t7 }) (by decide) rfl (fun _ => rfl)
      rfl rfl (by decide) (fun _ _ _ => rfl) (fun _ _ _ _ _ => flareSetting_iff) (fun _ _ => rfl)
      fun s _ _ _ some_ few => by rw [← getLastD_single s.tables.t7 some_ few]; rfl
  · exact writeRule_plain ownT8 (fun _ => allocSettingOfFields)
      (fun _ new s => { s.onTables fun t => { t with t8 := new.getLastD t.t8 } with
        alloc := { s.alloc with settingsLoaded := true } }) (by decide) rfl (fun _ => rfl)
      rfl rfl (by decide) (fun _ _ _ => rfl) (fun _ _ _ _ _ => allocSetting_iff) (fun _ _ => rfl)
      fun s _ _ _ some_ few => by rw [← getLastD_single s.tables.t8 some_ few]; rfl
  · exact writeRule_plain ownT13 (fun _ => sweepSettingOfFields)
      (fun _ new s => s.onTables fun t => { t with t13 := new.getLastD t.t13 }) (by decide) rfl (fun _ => rfl)
      rfl rfl (by decide) (fun _ _ _ => rfl) (fun _ _ _ _ _ => sweepSetting_iff) (fun _ _ => rfl)
      fun s _ _ _ some_ few => by rw [← getLastD_single s.tables.t13 some_ few]; rfl
  · exact writeRule_plain ownT14 (fun s => noticeSettingOfFields s.pins.station)
      (fun _ new s => keepTaken (s.onTables fun t => { t with t14 := new.getLastD t.t14 })) (by decide) rfl (fun _ => rfl)
      rfl rfl (by decide) (fun _ _ _ => rfl) (fun _ _ _ _ fit => noticeSetting_iff fit) (fun _ _ => rfl)
      fun s _ _ _ some_ few => by
        dsimp only
        rw [← getLastD_single s.tables.t14 some_ few]
        rfl

end Sys2Proof.Proofs
end

section
/-! EXCHANGE: the owner of a table answers it as it answers a WRITE of the one entry. -/

namespace Sys2Proof.Machine

variable {s : State} {q : Request} {rest : List Request} {index : Nat} {entries : List (List Byte)}

/-! ### What the owners of the tables leave alone -/

/-- The parts that a WRITE can change; the queue of requests is in none of them. -/
def writtenParts : List Part := [.tables, .records, .alloc, .sweep, .billing, .notices]

theorem refuse_changes (status : Status) : Changes writtenParts s (refuse status s).state := .refl _ s

theorem onTables_changes (f : Tables → Tables) : Changes [.tables] s (s.onTables f) := changes_tables s _

theorem ownPlain_changes {α : Type} {ws : List Nat} {entryOf : Nat → List Nat → Option α} {put : List α → State → State}
    (taken : ∀ new, Changes writtenParts s (put new s)) :
    Changes writtenParts s (ownPlain ws entryOf put index entries s).state := by
  unfold ownPlain
  split
  · exact refuse_changes .invalidEntry
  · exact taken _

theorem Changes.iteAnswer {parts : List Part} {c : Prop} [Decidable c] {a b : Answer} (yes : Changes parts s a.state)
    (no : Changes parts s b.state) : Changes parts s (if c then a else b).state := by
  split
  · exact yes
  · exact no

theorem ownT0_changes : Changes writtenParts s (ownT0 index entries s).state := by
  unfold ownT0
  split
  · exact refuse_changes .invalidEntry
  · exact .iteAnswer (refuse_changes _) (.iteAnswer (refuse_changes _) (.iteAnswer (refuse_changes _)
      (.iteAnswer (refuse_changes _)
        ((onTables_changes _).andThen (bindingReports_changes _ _ _) (by decide) (by decide)))))

theorem ownT12_changes : Changes writtenParts s (ownT12 index entries s).state := by
  unfold ownT12
  split
  · exact refuse_changes .invalidEntry
  · exact .iteAnswer (refuse_changes _)
      ((onTables_changes _).andThen (changeAccounts_changes _ _ _) (by decide) (by decide))

theorem settings_changes {α : Type} {ws : List Nat} {entryOf : Nat → List Nat → Option α} (f : List α → Tables → Tables) :
    Changes writtenParts s (ownPlain ws entryOf (fun new s => s.onTables (f new)) index entries s).state :=
  ownPlain_changes fun new => (onTables_changes (f new)).weaken (by decide)

theorem ownT8_changes : Changes writtenParts s (ownT8 index entries s).state :=
  ownPlain_changes fun _ => (onTables_changes _).andThen (changes_alloc _ _) (by decide) (by decide)

theorem keepTaken_changes : Changes [.notices] s (keepTaken s) := by
  constructor <;> simp [keepTaken]

theorem ownT14_changes : Changes writtenParts s (ownT14 index entries s).state :=
  ownPlain_changes fun _ => (onTables_changes _).andThen keepTaken_changes (by decide) (by decide)

theorem ownTable_changes (table : Nat) : Changes writtenParts s (ownTable table index entries s).state := by
  unfold ownTable
  split
  case h_1 => exact ownT0_changes
  case h_9 => exact ownT8_changes
  case h_13 => exact ownT12_changes
  case h_15 => exact ownT14_changes
  case h_16 => exact refuse_changes .outOfRange
  all_goals exact settings_changes _

/-- R173: the owner of a table does not touch the requests that wait. -/
theorem ownTable_queue (table : Nat) : (ownTable table index entries s).state.mgmt.queue = s.mgmt.queue :=
  (congrArg Mgmt.queue ((ownTable_changes table).mgmt.resolve_left (by decide)) :)

/-! ### One entry -/

theorem entrySize_pos {table size : Nat} (listed : table ≤ 14) (sized : entrySize table = some size) : 0 < size := by
  rw [entrySize_listed listed] at sized
  cases sized
  interval_cases table <;> decide

/-- R179: a WRITE of one entry within the table is its owner's. -/
theorem writeRequest_one {table size : Nat} {new : List Byte} (own : Nat → List (List Byte) → State → Answer)
    (sized : entrySize table = some size) (pos : 0 < size) (whole : new.length = size) (small : index < 65536)
    (inside : index < tableLength table) :
    writeRequest table own q (writeOperands table index [new]) s = own index [new] s := by
  have len : (writeOperands table index [new]).length = writePrefix + size := by
    rw [writeOperands_length, List.flatten_singleton, whole]
    rfl
  have one : ((writeOperands table index [new]).length - writePrefix) / size = 1 := by
    rw [len, Nat.add_sub_cancel_left, Nat.div_self pos]
  have cut : chunks size 1 new = [new] := by
    have := chunks_flatten (size := size) (es := [new]) (by simpa using whole)
    simpa using this
  have formed : ¬ ((writeOperands table index [new]).length < writePrefix + size ∨
      ((writeOperands table index [new]).length - writePrefix) % size ≠ 0) := by
    rw [len, Nat.add_sub_cancel_left, Nat.mod_self]
    simp
  have placed : ¬ tableLength table < index + 1 := by omega
  simp only [writeRequest, sized, Option.getD_some, one, if_neg formed, writeIndex_operands table [new] small, if_neg placed,
    writeEntries_operands, List.flatten_singleton, cut]

/-- R174, R179: the row that serves a WRITE to a listed table judges it by that table's length and owner. -/
theorem ownerOf_listed {operands : List Byte} {table : Nat} (named : writeTable operands = some table) (listed : table ≤ 14) :
    ∃ owner, ownerOf (writeCommand operands) = some owner ∧
      ∀ q s, owner q operands s = writeRequest table (ownTable table) q operands s := by
  have own := ownerOf_writeCommand named
  by_cases zero : table = 0
  · subst zero
    exact ⟨_, own, fun q s => if_pos named⟩
  · rw [if_neg (by omega)] at own
    exact ⟨_, own, fun _ _ => rfl⟩

/-- R180: what EXCHANGE answers for an expected and a new entry of the table's size. -/
theorem ownExchange_entries {table size : Nat} {expected new : List Byte} (listed : table ≤ 14) (small : index < 65536)
    (sized : entrySize table = some size) (old : expected.length = size) (whole : new.length = size) :
    ownExchange q (writeOperands table index [expected, new]) s =
      match (tableEntries s table).bind fun es => es[index]? with
      | none => refuse .outOfRange s
      | some current => if expected = current then ownTable table index [new] s else ⟨.mismatch, current, s⟩ := by
  have named := writeTable_operands index [expected, new] (show table < 256 by omega)
  have known : ((writeTable (writeOperands table index [expected, new])).bind fun t => (entrySize t).map fun n => (t, n)) =
      some (table, size) := by
    rw [named, Option.bind_some, sized, Option.map_some]
  have rest : (writeOperands table index [expected, new]).drop writePrefix = expected ++ new := by
    rw [writeEntries_operands]
    simp
  have first : ((writeOperands table index [expected, new]).drop writePrefix).take size = expected := by
    rw [rest, ← old, List.take_left]
  have second : (writeOperands table index [expected, new]).drop (writePrefix + size) = new := by
    rw [← List.drop_drop, rest, ← old, List.drop_left]
  have len : ¬ (writeOperands table index [expected, new]).length ≠ writePrefix + 2 * size := by
    rw [writeOperands_length]
    simp only [List.flatten_cons, List.flatten_nil, List.append_nil, List.length_append, old, whole, writePrefix]
    omega
  unfold ownExchange
  rw [known]
  simp only [if_neg len, first, second, writeIndex_operands table [expected, new] small] <;> rfl

end Sys2Proof.Machine

namespace Sys2Proof.Proofs
open Sys2Proof.Machine

/-- Settles O53: EXCHANGE and the WRITE of its new entry are answered by the same owner on the same part. -/
theorem exchanged : Obligations.Exchanged := by
  intro s q rest table index size expected new es listed small sized old whole h cls entries length operands request writing
  have may : ∀ code entries', (classesFor (BitVec.ofNat 8 code :: writeOperands table index entries')) =
      writeClasses (writeOperands table index entries') →
      (classesFor (BitVec.ofNat 8 code :: writeOperands table index entries')).contains
        (if table = 10 ∨ table = 11 then MgmtClass.billing else .engineer) = true := by
    intro code entries' same
    rw [same, writeClasses_operands listed]
    split <;> rfl
  have place : ∀ t : State, ((tableEntries (t.withRequests rest) table).bind fun es => es[index]?) =
      (tableEntries t table).bind fun es => es[index]? := fun _ => rfl
  have found : ((tableEntries s table).bind fun es => es[index]?) = es[index]? := by rw [entries, Option.bind_some]
  have judged := ownExchange_entries (q := q) (s := s.withRequests rest) listed small sized old whole
  rw [place, found] at judged
  have served := serve_answers .exchange ownExchange h rfl (by decide) (by decide) cls (may 4 _ rfl)
  refine ⟨fun past => served .outOfRange [] s ?_, fun current here other => served .mismatch current s ?_, fun same => ?_⟩
  · rw [judged, past]
    rfl
  · rw [judged, here]
    exact if_neg other
  · rw [same] at judged
    have taken : ownExchange q (writeOperands table index [expected, new]) (s.withRequests rest) =
        ownTable table index [new] (s.withRequests rest) := judged.trans (if_pos rfl)
    have kept : (ownTable table index [new] (s.withRequests rest)).state.mgmt.queue = rest := ownTable_queue table
    have write : Waiting writing request rest 3 operands := ⟨h.outOfReset, rfl, rfl, h.slot, h.serving⟩
    obtain ⟨owner, own, answer⟩ := ownerOf_listed (writeTable_operands index [new] (by omega)) listed
    have inside : index < tableLength table := length ▸ (List.getElem?_eq_some_iff.mp same).1
    have once : owner request operands (writing.withRequests rest) = ownTable table index [new] (s.withRequests rest) :=
      (answer _ _).trans (writeRequest_one _ sized (entrySize_pos listed sized) whole small inside)
    refine ⟨_, _, _, (exec_ownerOf own).trans (serve_owner write rfl (writeCommand_listed _) (writeCommand_noReset _)
      (write.may (s := writing) cls (may 3 _ rfl)) once kept), ?_⟩
    exact serve_owner (command := .exchange) h (h.row.trans rfl) (by decide) (by decide) (h.may cls (may 4 _ rfl)) taken kept

end Sys2Proof.Proofs
end

section
/-! A WRITE to the accounts, and the cancelling of polls. -/

namespace Sys2Proof.Machine

variable {s t : State} {q : Request} {rest : List Request}

/-! ### How a WRITE is answered -/

/-- R179: a WRITE of whole entries is answered by its place, then as the owner of its table judges it. -/
theorem write_judged {command : Instr} {table index : Nat} {ws : List Nat} {fs : List (List Nat)} {cls : MgmtClass}
    (listed : table ≤ 14) (row : writeCommand [BitVec.ofNat 8 table] = command)
    (classed : cls = if table = 10 ∨ table = 11 then .billing else .engineer) (widths : tableWidths table = some ws)
    (pos : 0 < ws.sum) (some_ : fs ≠ []) (fit : ∀ f ∈ fs, fieldsFit ws f) (small : index < 65536)
    (h : Waiting s q rest 3 (writeOperands table index (fs.map (fieldBytes ws)))) (class_ : s.classOf q.station = some cls)
    {a : Answer} (judged : (if tableLength table < index + fs.length then refuse .outOfRange (s.withRequests rest)
      else ownTable table index (fs.map (fieldBytes ws)) (s.withRequests rest)) = a) :
    exec command s = .next (answered q rest 3 a.status.code a.data (a.state.withRequests s.mgmt.queue)) := by
  obtain ⟨write3, named⟩ := commandOf_write listed index (fs.map (fieldBytes ws))
  have place : writeCommand (writeOperands table index (fs.map (fieldBytes ws))) = command :=
    (writeCommand_congr (named.trans (by simp [writeTable]; omega))).trans row
  have may : (classesFor (BitVec.ofNat 8 3 :: writeOperands table index (fs.map (fieldBytes ws)))).contains cls = true := by
    change (writeClasses (writeOperands table index (fs.map (fieldBytes ws)))).contains cls = true
    rw [writeClasses_operands listed, classed]
    split <;> rfl
  obtain ⟨owner, own, answer⟩ := ownerOf_listed named listed
  rw [place] at own
  have answered_ : owner q (writeOperands table index (fs.map (fieldBytes ws))) (s.withRequests rest) = a :=
    (answer _ _).trans ((writeRequest_entries q _ (ownTable table) widths pos some_ fit small).trans judged)
  have queue : a.state.mgmt.queue = rest := by
    subst judged
    split
    · rfl
    · exact ownTable_queue table
  exact (exec_ownerOf own).trans (serve_owner h (h.row.trans (write3.trans place)) (row ▸ writeCommand_listed _)
    (row ▸ writeCommand_noReset _) (h.may class_ may) answered_ queue)

/-- What a WRITE with reports to the other blocks leaves alone. -/
theorem Changes.beyondReports (c : Changes [.tables, .records, .sweep, .billing, .notices] s t) :
    { t with tables := s.tables, records := s.records, sweep := s.sweep, billing := s.billing, mgmt := s.mgmt } = s := by
  have pins := c.pins.resolve_left (by decide)
  have port := c.port.resolve_left (by decide)
  have clock := c.clock.resolve_left (by decide)
  have holder := c.holder.resolve_left (by decide)
  have alloc := c.alloc.resolve_left (by decide)
  have governor := c.governor.resolve_left (by decide)
  have latch := c.latch.resolve_left (by decide)
  have tracker := c.tracker.resolve_left (by decide)
  have now := c.now.resolve_left (by decide)
  have freeCount := c.freeCount.resolve_left (by decide)
  rw [pins, port, clock, holder, alloc, governor, latch, tracker, now, freeCount, c.pending]

/-! ### Cancelled polls -/

/-- R155: the sweep once the polls of the accounts `gone` are cancelled. -/
def Sweep.cancelled (gone : Nat → Bool) (w : Sweep) : Sweep :=
  { w with
    entries := w.entries.filter fun e => !gone e.account
    retries := w.retries.filter fun a => !gone a
    placement := w.placement.map fun item => if item.any gone then none else item }

theorem pollsCancelled_cancelled (gone : Nat → Bool) (w : Sweep) : pollsCancelled gone w (w.cancelled gone) :=
  ⟨rfl, rfl, rfl⟩

theorem Sweep.cancelled_none (w : Sweep) : w.cancelled (fun _ => false) = w := by
  simp [Sweep.cancelled]

theorem Sweep.cancelled_cancelled (f g : Nat → Bool) (w : Sweep) :
    (w.cancelled f).cancelled g = w.cancelled fun a => f a || g a := by
  have placed : ∀ item : Option Nat, (if (if item.any f then none else item).any g then none
      else if item.any f then none else item) = if item.any (fun a => f a || g a) then none else item := by
    intro item
    cases item with
    | none => rfl
    | some a => cases first : f a <;> simp [first]
  simp only [Sweep.cancelled, List.filter_filter, List.map_map, Function.comp_def, placed, Bool.not_or, Bool.and_comm]

theorem cancelEntry_eq (a : Nat) : cancelEntry a s = s.onSweep (Sweep.cancelled fun b => b == a) := by
  have placed : ∀ item : Option Nat, (if item = some a then none else item) =
      if item.any (fun b => b == a) then none else item := by
    intro item
    cases item <;> simp
  simp only [cancelEntry, freeEntry, State.onSweep, Sweep.cancelled, placed, bne]

theorem foldl_cancelEntry (l : List Nat) :
    l.foldl (fun s a => cancelEntry a s) s = s.onSweep (Sweep.cancelled fun b => l.contains b) := by
  induction l generalizing s with
  | nil =>
    have same : s.sweep.cancelled (fun b => [].contains b) = s.sweep := Sweep.cancelled_none _
    rw [State.onSweep, same]
    rfl
  | cons a l ih =>
    rw [List.foldl_cons, ih, cancelEntry_eq]
    simp only [State.onSweep, Sweep.cancelled_cancelled, List.contains_cons]

/-- R155: the end of a sweep leaves the polls. -/
theorem pollsCancelled_checkSweepEnd (gone : Nat → Bool) (w : Sweep) (cancelled : pollsCancelled gone w s.sweep) :
    pollsCancelled gone w (checkSweepEnd s).sweep := by
  have settled : ∀ t : State, pollsCancelled gone w t.sweep → pollsCancelled gone w (settleSweep t).sweep := by
    intro t polls
    rw [settleSweep_eq]
    exact polls
  unfold checkSweepEnd
  split
  · split
    · unfold finishSweep
      split
      · have begun : pollsCancelled gone w ((beginSweep s.sweep.copy (s.notice .sweepDone (s.sweep.number : Int))).notice
            .sweepOverrun ((beginSweep s.sweep.copy (s.notice .sweepDone (s.sweep.number : Int))).sweep.number : Int)).sweep := by
          rw [State.notice_sweep]
          change pollsCancelled gone w { (s.notice .sweepDone (s.sweep.number : Int)).sweep with .. }
          rw [State.notice_sweep]
          exact cancelled
        dsimp only
        split
        · exact settled _ begun
        · exact begun
      · exact settled _ cancelled
    · split
      · exact cancelled
      · exact cancelled
  · exact cancelled

theorem checkSweepEnd_tables : (checkSweepEnd s).tables = s.tables := (checkSweepEnd_changes s).tables.resolve_left (by decide)

theorem checkSweepEnd_billing : (checkSweepEnd s).billing = s.billing :=
  (checkSweepEnd_changes s).billing.resolve_left (by decide)

theorem checkSweepEnd_records : (checkSweepEnd s).records = s.records :=
  (checkSweepEnd_changes s).records.resolve_left (by decide)

/-! ### Changed accounts -/

/-- R158: the accounts once those whose entry changes are acted on. -/
def State.changed (s : State) (old new : List AccountSetting) : List Account :=
  mapFrom (fun a acc => changedAccount (old.getD a AccountSetting.zero) (new.getD a AccountSetting.zero) acc) 0
    s.billing.accounts

/-- R155: the accounts whose polls a change of their entry cancels. -/
def reported (old new : List AccountSetting) (a : Nat) : Bool :=
  a < 96 && reportsChange (old.getD a AccountSetting.zero) (new.getD a AccountSetting.zero)

theorem changeAccounts_eq (old new : List AccountSetting) : changeAccounts old new s =
    checkSweepEnd { s with billing := { s.billing with accounts := s.changed old new }
                           sweep := s.sweep.cancelled (reported old new) } := by
  have gone : (fun b => ((List.range 96).filter fun a => reportsChange (old.getD a AccountSetting.zero)
      (new.getD a AccountSetting.zero)).contains b) = reported old new := by
    funext b
    rw [Bool.eq_iff_iff, List.contains_iff_mem, List.mem_filter, List.mem_range, reported, Bool.and_eq_true,
      decide_eq_true_iff]
  rw [changeAccounts, foldl_cancelEntry, gone]
  rfl

theorem mapFrom_getD {α : Type} (f : Nat → α → α) {l : List α} {i : Nat} (known : i < l.length) (d : α) :
    (mapFrom f 0 l).getD i d = f i (l.getD i d) := by
  simp [List.getD_eq_getElem?_getD, List.getElem?_eq_getElem known]

/-- R157: whether two enabled accounts would name the same meter index. -/
theorem duplicateMeters_iff (l : List Nat) : duplicateMeters l = true ↔ ¬ l.Nodup := by
  induction l with
  | nil => simp [duplicateMeters]
  | cons m ms ih =>
    rw [duplicateMeters, Bool.or_eq_true, ih, List.contains_iff_mem, List.nodup_cons]
    tauto

theorem ownT12_refused {index : Nat} {entries : List (List Byte)}
    (bad : readEntries widthsT12 accountSettingOfFields index entries = none) :
    ownT12 index entries s = refuse .invalidEntry s := by
  rw [ownT12, bad]

theorem ownT12_read {index : Nat} {entries : List (List Byte)} {new : List AccountSetting}
    (read : readEntries widthsT12 accountSettingOfFields index entries = some new) :
    ownT12 index entries s = if duplicateMeters (enabledMeters (written s.tables.t12 index new)) then refuse .duplicate s
      else doneWith (changeAccounts s.tables.t12 (written s.tables.t12 index new)
        (s.onTables fun t => { t with t12 := written s.tables.t12 index new })) := by
  rw [ownT12, read]
  rfl

/-- R158: what becomes of an account, by its entry before and after. -/
theorem changedAccount_cases (old new : AccountSetting) (a : Account) :
    (old.enabled = false → new.enabled = false → changedAccount old new a = a) ∧
    (old.enabled = true → new.enabled = true → old.meter = new.meter → changedAccount old new a = a) ∧
    (old.enabled = true → new.enabled = true → old.meter ≠ new.meter → changedAccount old new a = unreadGap a) ∧
    (old.enabled ≠ new.enabled → changedAccount old new a =
      { state := if new.enabled then .unread else .disabled, baseline := none
        implausible := if new.enabled then 0 else a.implausible
        misses := if new.enabled then 0 else a.misses
        energies := List.replicate 8 0
        period := { first := none, last := none, missed := 0, fault := 0, rejected := 0, gap := false
                    baseline := false } }) := by
  unfold changedAccount
  refine ⟨fun was is => ?_, fun was is same => ?_, fun was is other => ?_, fun differ => ?_⟩
  · rw [was, is]
  · rw [was, is]
    exact if_pos same
  · rw [was, is]
    exact if_neg other
  · cases was : old.enabled <;> cases is : new.enabled
    · exact absurd (was.trans is.symm) differ
    · rfl
    · rfl
    · exact absurd (was.trans is.symm) differ

end Sys2Proof.Machine

namespace Sys2Proof.Proofs
open Sys2Proof.Machine

/-- Settles O52: the owner of T12 judges the entries (`accountSetting_iff`, `duplicateMeters_iff`), and a taken write acts
on each account and cancels the polls of those it reports (`changeAccounts_eq`). -/
theorem accountsWritten : Obligations.AccountsWritten := by
  intro s q rest index fs some_ fit small h cls answers carries
  have judged := fun {a : Answer} => write_judged (command := .writeT12) (a := a) (by decide) rfl rfl rfl (by decide) some_
    fit small h cls
  have refused : ∀ status, ownT12 index (fs.map (fieldBytes widthsT12)) (s.withRequests rest) =
      refuse status (s.withRequests rest) → index + fs.length ≤ 96 → answers status.code s := fun status own inside =>
    judged (a := refuse status (s.withRequests rest)) ((if_neg (Nat.not_lt.mpr inside)).trans own)
  refine ⟨fun past => judged (a := refuse .outOfRange (s.withRequests rest)) (if_pos past), fun inside bad => ?_,
    fun new inside length each => ?_⟩
  · obtain ⟨f, mem, none_⟩ := bad
    obtain ⟨i, place⟩ := List.mem_iff_getElem?.mp mem
    refine refused .invalidEntry (ownT12_refused (readEntries_none fit ⟨i, f, place, ?_⟩)) inside
    cases read : accountSettingOfFields (index + i) f with
    | none => rfl
    | some e => exact absurd (accountSetting_iff.mp read) (none_ e)
  · intro after distinct
    have read : readEntries widthsT12 accountSettingOfFields index (fs.map (fieldBytes widthsT12)) = some new :=
      readEntries_some fit length fun i f e place entry => accountSetting_iff.mpr (each i f e place entry)
    have own := ownT12_read (s := s.withRequests rest) read
    refine ⟨fun double => refused .duplicate (own.trans (if_pos ((duplicateMeters_iff _).mpr double))) inside,
      fun single size accounts => ?_⟩
    have taken := own.trans (if_neg (mt (duplicateMeters_iff _).mp (not_not.mpr single)))
    let cancelled : State := { (s.withRequests rest).onTables fun t => { t with t12 := after } with
      billing := { s.billing with accounts := s.changed s.tables.t12 after }
      sweep := s.sweep.cancelled (reported s.tables.t12 after) }
    have effect : changeAccounts s.tables.t12 after ((s.withRequests rest).onTables fun t => { t with t12 := after }) =
        checkSweepEnd cancelled := changeAccounts_eq _ _
    have tables : (checkSweepEnd cancelled).tables = { s.tables with t12 := after } := checkSweepEnd_tables
    have billing : (checkSweepEnd cancelled).billing = { s.billing with accounts := s.changed s.tables.t12 after } :=
      checkSweepEnd_billing
    have changes : Changes [.tables, .records, .sweep, .billing, .notices] (s.withRequests rest) (checkSweepEnd cancelled) :=
      effect ▸ (onTables_changes _).andThen (changeAccounts_changes _ _ _) (by decide) (by decide)
    have records : (checkSweepEnd cancelled).records = s.records := checkSweepEnd_records
    have entry : ∀ a, ((checkSweepEnd cancelled).withRequests s.mgmt.queue).accountSetting a =
        after.getD a AccountSetting.zero := fun a =>
      congrArg (fun t : Tables => t.t12.getD a AccountSetting.zero) tables
    refine ⟨(checkSweepEnd cancelled).withRequests s.mgmt.queue, ?_, tables, fun a low => ?_, ?_, ?_, ?_, ?_⟩
    · exact judged (a := doneWith (checkSweepEnd cancelled)) ((if_neg (Nat.not_lt.mpr inside)).trans (effect ▸ taken))
    · have becomes : ((checkSweepEnd cancelled).withRequests s.mgmt.queue).account a =
          changedAccount (s.accountSetting a) (after.getD a AccountSetting.zero) (s.account a) :=
        (congrArg (fun b : Billing => b.accounts.getD a Account.initial) billing).trans
          (mapFrom_getD _ (accounts ▸ low) Account.initial)
      rw [becomes, entry]
      exact changedAccount_cases _ _ _
    · have gone : (fun a => a < 96 && (s.accountSetting a).enabled &&
          (!(((checkSweepEnd cancelled).withRequests s.mgmt.queue).accountSetting a).enabled ||
            (s.accountSetting a).meter != (((checkSweepEnd cancelled).withRequests s.mgmt.queue).accountSetting a).meter)) =
          reported s.tables.t12 after := by
        funext a
        rw [entry, Bool.and_assoc]
        rfl
      rw [gone]
      exact pollsCancelled_checkSweepEnd _ _ (pollsCancelled_cancelled _ _)
    · exact congrArg (fun b : Billing => { b with accounts := s.billing.accounts }) billing
    · have beyond := changes.beyondReports
      have same := congrArg (fun t : State => { t with records := (checkSweepEnd cancelled).records, mgmt := s.mgmt }) beyond
      exact same.trans (by rw [records]; rfl)
    · exact congrArg (fun m : Mgmt => { m with queue := s.mgmt.queue }) (changes.mgmt.resolve_left (by decide))

end Sys2Proof.Proofs
end

section
/-! A WRITE to the station table: its checks, and its reports to the other blocks. -/

namespace Sys2Proof.Machine

variable {s t : State} {q : Request} {rest : List Request}

/-! ### The checks of an entry and of the table -/

theorem roleOfCode_code (r : Role) : roleOfCode r.code = some r := by cases r <;> rfl

theorem roleOfCode_some {c : Nat} {r : Role} (read : roleOfCode c = some r) : c = r.code := by
  unfold roleOfCode at read
  split at read <;> cases read <;> rfl

theorem Role.code_pos (r : Role) : r.code ≠ 0 := by cases r <;> decide

/-- R22: the check of an entry that is not empty. -/
theorem bindingOfFields_role (own : Byte) (i st index admission : Nat) (role : Role) :
    bindingOfFields own i [st, role.code, index, admission] =
      if st = 0 ∨ st = 255 ∨ BitVec.ofNat 8 st = own ∨ 1 < admission then none
      else match role.count with
        | none => some (some ⟨BitVec.ofNat 8 st, role, 0, admission == 1⟩)
        | some n => if index < n then some (some ⟨BitVec.ofNat 8 st, role, index, admission == 1⟩) else none := by
  cases role <;> rfl

theorem bindingOfFields_unlisted (own : Byte) (i st index admission : Nat) {code : Nat} (filled : code ≠ 0)
    (unlisted : roleOfCode code = none) : bindingOfFields own i [st, code, index, admission] = none := by
  rw [bindingOfFields, if_neg filled, unlisted]

theorem stationByte_iff {st : Nat} (fits : st < 256) (own : Byte) (admission : Nat) :
    ¬ (st = 0 ∨ st = 255 ∨ BitVec.ofNat 8 st = own ∨ 1 < admission) ↔ BitVec.ofNat 8 st ≠ 0 ∧ BitVec.ofNat 8 st ≠ 255 ∧
      BitVec.ofNat 8 st ≠ own ∧ admission = if admission == 1 then 1 else 0 := by
  have byte : ∀ n : Nat, n < 256 → (BitVec.ofNat 8 st = BitVec.ofNat 8 n ↔ st = n) := fun n small => by
    rw [← BitVec.toNat_inj, BitVec.toNat_ofNat, BitVec.toNat_ofNat, Nat.mod_eq_of_lt fits, Nat.mod_eq_of_lt small]
  have zero : BitVec.ofNat 8 st = 0 ↔ st = 0 := byte 0 (by decide)
  have flag : BitVec.ofNat 8 st = 255 ↔ st = 255 := byte 255 (by decide)
  have code : ¬ 1 < admission ↔ admission = if admission == 1 then 1 else 0 := by
    rcases admission with _ | _ | n <;> simp
  rw [not_or, not_or, not_or, code, ne_eq, ne_eq, zero, flag]

/-- R22: an entry that is not empty, as its check reads it. -/
theorem bindingOfFields_some {i st index admission : Nat} {role : Role} {x : Binding} (fits : st < 256) :
    bindingOfFields s.pins.station i [st, role.code, index, admission] = some (some x) ↔
      carriesBinding s [st, role.code, index, admission] (some x) := by
  rw [bindingOfFields_role]
  have judged := stationByte_iff fits s.pins.station admission
  have back : (BitVec.ofNat 8 st).toNat = st := Nat.mod_eq_of_lt fits
  constructor
  · intro read
    obtain ⟨sound, read⟩ := Option.ite_none_left_eq_some.mp read
    obtain ⟨notZero, notFlag, notOwn, code⟩ := judged.mp sound
    cases count : role.count with
    | none =>
      rw [count] at read
      cases read
      exact ⟨index, by rw [back, ← code], notZero, notFlag, notOwn, by simp only [count]⟩
    | some n =>
      rw [count] at read
      obtain ⟨inside, read⟩ := Option.ite_none_right_eq_some.mp read
      cases read
      exact ⟨index, by rw [back, ← code], notZero, notFlag, notOwn, by simp only [count]; exact ⟨inside, trivial⟩⟩
  · rintro ⟨index', same, notZero, notFlag, notOwn, place⟩
    simp only [List.cons.injEq, and_true] at same
    obtain ⟨station, roleSame, rfl, admitted⟩ := same
    have roles : role = x.role := by
      have := congrArg roleOfCode roleSame
      rwa [roleOfCode_code, roleOfCode_code, Option.some.injEq] at this
    have bytes : BitVec.ofNat 8 st = x.station := by rw [station, BitVec.ofNat_toNat, BitVec.setWidth_eq]
    have flag : (admission == 1) = x.ignore := by rw [admitted]; cases x.ignore <;> rfl
    have sound : ¬ (st = 0 ∨ st = 255 ∨ BitVec.ofNat 8 st = s.pins.station ∨ 1 < admission) :=
      judged.mpr ⟨bytes ▸ notZero, bytes ▸ notFlag, bytes ▸ notOwn, by rw [flag]; exact admitted⟩
    obtain ⟨xStation, xRole, xIndex, xIgnore⟩ := x
    dsimp only at roles bytes flag place
    subst roles bytes flag
    rw [if_neg sound]
    cases count : role.count with
    | none =>
      rw [count] at place
      rw [place]
    | some n =>
      rw [count] at place
      obtain ⟨inside, rfl⟩ := place
      exact if_pos inside

theorem binding_iff {i : Nat} {f : List Nat} {b : Option Binding} (fit : fieldsFit [1, 1, 1, 1] f) :
    bindingOfFields s.pins.station i f = some b ↔ carriesBinding s f b := by
  cases fit with | cons stationFits fit => cases fit with | cons roleFits fit => cases fit with | cons indexFits fit =>
  cases fit with | cons admissionFits fit =>
  cases fit
  rename_i st code index admission
  by_cases empty : code = 0
  · subst empty
    rw [show bindingOfFields s.pins.station i [st, 0, index, admission] = some none from rfl]
    cases b with
    | none => exact iff_of_true rfl rfl
    | some x =>
      refine iff_of_false (by simp) ?_
      rintro ⟨_, same, -⟩
      exact x.role.code_pos (List.cons.inj (List.cons.inj same).2).1.symm
  · cases listed : roleOfCode code with
    | none =>
      rw [bindingOfFields_unlisted _ i st index admission empty listed]
      refine iff_of_false (by simp) ?_
      cases b with
      | none => exact empty
      | some x =>
        rintro ⟨_, same, -⟩
        rw [(List.cons.inj (List.cons.inj same).2).1, roleOfCode_code] at listed
        cases listed
    | some role =>
      obtain rfl := roleOfCode_some listed
      cases b with
      | some x => exact bindingOfFields_some stationFits
      | none =>
        refine iff_of_false (fun read => ?_) empty
        rw [bindingOfFields_role] at read
        obtain ⟨-, read⟩ := Option.ite_none_left_eq_some.mp read
        split at read
        · cases read
        · cases (Option.ite_none_right_eq_some.mp read).2

theorem uniqueBindings_iff (bs : List Binding) : uniqueBindings bs = true ↔ bindingsDistinct bs := by
  induction bs with
  | nil => simp [uniqueBindings, bindingsDistinct]
  | cons b bs ih =>
    have apart : ∀ x, distinctBindings b x = true ↔ b.station ≠ x.station ∧
        ¬ (b.role.mgmtClass = none ∧ b.role = x.role ∧ b.index = x.index) := by
      intro x
      cases cls : b.role.mgmtClass <;> simp [distinctBindings, cls, imp_iff_not_or]
    have cons : bindingsDistinct (b :: bs) ↔ _ := List.pairwise_cons
    rw [uniqueBindings, Bool.and_eq_true, ih, List.all_eq_true, cons]
    exact and_congr_left fun _ => forall₂_congr fun x _ => apart x

theorem mgmtCountOk_iff (bs : List Binding) :
    mgmtCountOk bs = true ↔ ¬ 4 < (bs.filter fun b => b.role.mgmtClass.isSome).length := by
  rw [mgmtCountOk, decide_eq_true_iff, List.countP_eq_length_filter, Nat.not_lt]

theorem rebindsGoverned_iff (o n : Option Binding) : rebindsGoverned o n = true ↔ governedRebound o n := by
  have governed : ∀ x : Option Binding, governedEntry x = true ↔ ∃ b, x = some b ∧ b.role.governed = true := by
    intro x
    cases x <;> simp [governedEntry]
  rw [rebindsGoverned, Bool.and_eq_true, Bool.or_eq_true, governed, governed, bne_iff_ne]
  rfl

theorem anyGovernedRebound_iff (old new : List (Option Binding)) : anyGovernedRebound old new = true ↔
    ∃ (i : Nat) (o n : Option Binding), old[i]? = some o ∧ new[i]? = some n ∧ governedRebound o n := by
  simp only [anyGovernedRebound, List.any_eq_true, List.mem_iff_getElem?, List.getElem?_zip_eq_some, Prod.exists,
    rebindsGoverned_iff]
  constructor
  · rintro ⟨o, n, ⟨i, was, is⟩, moved⟩
    exact ⟨i, o, n, was, is, moved⟩
  · rintro ⟨i, o, n, was, is, moved⟩
    exact ⟨o, n, ⟨i, was, is⟩, moved⟩

/-! ### Discarded candidates -/

/-- R26: a record whose candidate is discarded. -/
def InputRecord.discarded (x : InputRecord) : InputRecord := { x with candidate := none }

theorem State.record_discarded (r i : Nat) : (s.setRecord r InputRecord.discarded).record i =
    if r == i then (s.record i).discarded else s.record i := by
  by_cases same : r = i
  · subst same
    rw [beq_self_eq_true, if_pos rfl]
    by_cases known : r < s.records.length
    · exact s.record_setRecord_self known _
    · simp only [State.record, State.setRecord, List.getD_eq_getElem?_getD, List.getElem?_modify,
        List.getElem?_eq_none (Nat.le_of_not_lt known)]
      rfl
  · rw [beq_eq_false_iff_ne.mpr same]
    exact s.record_setRecord_ne same _

/-- Steps that each discard the candidates of the records they hit. -/
theorem record_foldl_discarded {α : Type} (step : State → α → State) (hit : α → Nat → Bool)
    (each : ∀ s a i, (step s a).record i = if hit a i then (s.record i).discarded else s.record i) (l : List α) (i : Nat) :
    (l.foldl step s).record i = if l.any fun a => hit a i then (s.record i).discarded else s.record i := by
  induction l generalizing s with
  | nil => rfl
  | cons a l ih =>
    rw [List.foldl_cons, ih, each, List.any_cons]
    cases hit a i <;> cases (l.any fun a => hit a i) <;> rfl

theorem record_discardCandidates (role : Role) (k i : Nat) : (discardCandidates role k s).record i =
    if (recordsOf role k).any fun r => isStatusRecord r && r == i then (s.record i).discarded else s.record i := by
  refine record_foldl_discarded _ (fun r i => isStatusRecord r && r == i) (fun s r i => ?_) _ i
  cases isStatusRecord r
  · rfl
  · exact State.record_discarded r i

/-- R26, R30: the candidates that a rebound role and index loses are those of its own status records. -/
theorem statusOwners_any (rebound : Role → Nat → Bool) {i : Nat} (known : i < 31) :
    (statusOwners.any fun o => rebound o.1 o.2 && (recordsOf o.1 o.2).any fun r => isStatusRecord r && r == i) =
      (isStatusRecord i && rebound (recordOwner i).1 (recordOwner i).2) := by
  rw [Bool.eq_iff_iff]
  simp only [List.any_eq_true, Bool.and_eq_true, beq_iff_eq, recordsOf, List.mem_filter, List.mem_range]
  constructor
  · rintro ⟨o, -, moved, r, ⟨-, owner⟩, status, rfl⟩
    rw [owner]
    exact ⟨status, moved⟩
  · rintro ⟨status, moved⟩
    refine ⟨recordOwner i, ?_, moved, i, ⟨known, rfl⟩, status, rfl⟩
    exact List.mem_map_of_mem (List.mem_filter.mpr ⟨List.mem_range.mpr known, status⟩)

/-- R26: the part once the candidates of the rebound roles and indices are discarded. -/
def State.candidatesDiscarded (s : State) (rebound : Role → Nat → Bool) : State :=
  statusOwners.foldl (fun s o => if rebound o.1 o.2 then discardCandidates o.1 o.2 s else s) s

theorem State.record_candidatesDiscarded (rebound : Role → Nat → Bool) {i : Nat} (known : i < 31) :
    (s.candidatesDiscarded rebound).record i =
      if isStatusRecord i = true ∧ rebound (recordOwner i).1 (recordOwner i).2 = true then
        { s.record i with candidate := none } else s.record i := by
  have each := record_foldl_discarded (s := s) (fun s o => if rebound o.1 o.2 then discardCandidates o.1 o.2 s else s)
    (fun o i => rebound o.1 o.2 && (recordsOf o.1 o.2).any fun r => isStatusRecord r && r == i)
    (fun s o i => by
      cases rebound o.1 o.2
      · rfl
      · exact record_discardCandidates _ _ _) statusOwners i
  rw [State.candidatesDiscarded, each, statusOwners_any rebound known]
  simp only [Bool.and_eq_true]
  rfl

theorem candidatesDiscarded_changes (rebound : Role → Nat → Bool) : Changes [.records] s (s.candidatesDiscarded rebound) :=
  Changes.foldl _ _ fun _ _ => .ite (fun _ => discardCandidates_changes _ _ _) fun _ => .refl _ _

/-! ### Rebound meters -/

/-- R155: an account with an outstanding entry that names one of the meter indices `meters`. -/
def State.cancels (s : State) (meters : Nat → Bool) (a : Nat) : Bool :=
  meters (s.accountSetting a).meter && s.sweep.entries.any fun e => e.account == a

/-- R167: the accounts once the meter indices `meters` are rebound. -/
def State.unsettled (s : State) (meters : Nat → Bool) : List Account :=
  mapFrom (fun a acc => if (s.accountSetting a).enabled && meters (s.accountSetting a).meter then acc.rebound else acc) 0
    s.billing.accounts

/-- R155, R167: the part once the meter indices `meters` are rebound. -/
def State.metersRebound (s : State) (meters : Nat → Bool) : State :=
  { s with sweep := s.sweep.cancelled (s.cancels meters)
           billing := { s.billing with accounts := s.unsettled meters } }

theorem State.metersRebound_none : s.metersRebound (fun _ => false) = s := by
  have polls : s.sweep.cancelled (s.cancels fun _ => false) = s.sweep := Sweep.cancelled_none _
  have accounts : s.unsettled (fun _ => false) = s.billing.accounts :=
    mapFrom_id _ _ _ fun a acc _ => by simp
  rw [State.metersRebound, polls, accounts]

theorem mapFrom_mapFrom {α : Type} (f g : Nat → α → α) (i : Nat) (l : List α) :
    mapFrom g i (mapFrom f i l) = mapFrom (fun j a => g j (f j a)) i l := by
  induction l generalizing i with
  | nil => rfl
  | cons a l ih => exact congrArg _ (ih (i + 1))

/-- R167: a second rebinding of an account's meter makes no more of the account. -/
theorem Account.rebound_twice (enabled f g : Bool) (a : Account) :
    (if enabled && g then (if enabled && f then a.rebound else a).rebound else if enabled && f then a.rebound else a) =
      if enabled && (f || g) then a.rebound else a := by
  cases enabled <;> cases f <;> cases g <;> rfl

theorem State.metersRebound_metersRebound (f g : Nat → Bool) :
    (s.metersRebound f).metersRebound g = s.metersRebound fun m => f m || g m := by
  have polls : (fun a => s.cancels f a || (s.metersRebound f).cancels g a) = s.cancels fun m => f m || g m := by
    funext a
    have left : ((s.metersRebound f).sweep.entries.any fun e => e.account == a) =
        (!s.cancels f a && s.sweep.entries.any fun e => e.account == a) := by
      rw [Bool.eq_iff_iff]
      simp only [State.metersRebound, Sweep.cancelled, List.any_filter, List.any_eq_true, Bool.and_eq_true, beq_iff_eq]
      constructor
      · rintro ⟨e, mem, kept, rfl⟩
        exact ⟨kept, e, mem, rfl⟩
      · rintro ⟨kept, e, mem, rfl⟩
        exact ⟨e, mem, kept, rfl⟩
    have setting : (s.metersRebound f).accountSetting a = s.accountSetting a := rfl
    rw [State.cancels, State.cancels, State.cancels, left, setting, State.cancels]
    cases f (s.accountSetting a).meter <;> cases g (s.accountSetting a).meter <;>
      cases (s.sweep.entries.any fun e => e.account == a) <;> rfl
  have accounts : (s.metersRebound f).unsettled g = s.unsettled fun m => f m || g m := by
    refine (mapFrom_mapFrom _ _ 0 s.billing.accounts).trans (congrArg (fun h => mapFrom h 0 s.billing.accounts) ?_)
    funext a acc
    have setting : (s.metersRebound f).accountSetting a = s.accountSetting a := rfl
    rw [setting]
    exact Account.rebound_twice _ _ _ acc
  have sweeps : (s.metersRebound f).sweep.cancelled ((s.metersRebound f).cancels g) =
      s.sweep.cancelled (s.cancels fun m => f m || g m) := by
    rw [← polls]
    exact Sweep.cancelled_cancelled _ _ _
  rw [State.metersRebound, sweeps, accounts]
  rfl

theorem rebinding_eq (m : Nat) : billRebinding m (sweepRebinding m s) = s.metersRebound fun x => x == m := by
  have gone : (fun a => (accountsOfMeter s m).contains a) = s.cancels fun x => x == m := by
    funext a
    rw [Bool.eq_iff_iff]
    simp only [accountsOfMeter, State.cancels, List.contains_iff_mem, List.mem_filter, List.mem_map, Bool.and_eq_true,
      List.any_eq_true, beq_iff_eq]
    exact and_comm
  rw [sweepRebinding, foldl_cancelEntry, gone]
  rfl

theorem foldl_rebinding (l : List Nat) :
    l.foldl (fun s m => billRebinding m (sweepRebinding m s)) s = s.metersRebound fun m => l.contains m := by
  induction l generalizing s with
  | nil => exact State.metersRebound_none.symm
  | cons m l ih =>
    rw [List.foldl_cons, ih, rebinding_eq, State.metersRebound_metersRebound]
    simp only [List.contains_cons]

theorem reboundMeters_contains (old new : List (Option Binding)) (m : Nat) :
    (reboundMeters old new).contains m = (decide (m < 96) && isRebound old new .heatMeter m) := by
  rw [Bool.eq_iff_iff, List.contains_iff_mem, reboundMeters, List.mem_filter, List.mem_range, Bool.and_eq_true,
    decide_eq_true_iff]

/-- R26, R155, R167: the reports of a taken write. -/
theorem bindingReports_eq (old new : List (Option Binding)) : bindingReports old new s = checkSweepEnd
    ((s.candidatesDiscarded (isRebound old new)).metersRebound fun m => m < 96 && isRebound old new .heatMeter m) := by
  simp only [← reboundMeters_contains]
  rw [bindingReports, foldl_rebinding]
  rfl

theorem State.metersRebound_sweep (meters : Nat → Bool) (sweep : t.sweep = s.sweep) (tables : t.tables = s.tables) :
    (t.metersRebound meters).sweep = s.sweep.cancelled (s.cancels meters) := by
  have gone : t.cancels meters = s.cancels meters := by
    funext a
    rw [State.cancels, State.cancels, State.accountSetting, State.accountSetting, sweep, tables]
  rw [State.metersRebound, gone, sweep]

theorem State.metersRebound_billing (meters : Nat → Bool) (billing : t.billing = s.billing) (tables : t.tables = s.tables) :
    (t.metersRebound meters).billing = { s.billing with accounts := s.unsettled meters } := by
  have accounts : t.unsettled meters = s.unsettled meters := by
    unfold State.unsettled State.accountSetting
    rw [billing, tables]
  rw [State.metersRebound, accounts, billing]

/-- R22 to R26: what the reports of a taken write leave of the part. -/
structure Reported (s t : State) (old new : List (Option Binding)) : Prop where
  tables : t.tables = s.tables
  records : ∀ r < 31, t.record r = if isStatusRecord r = true ∧
    isRebound old new (recordOwner r).1 (recordOwner r).2 = true then { s.record r with candidate := none } else s.record r
  polls : pollsCancelled (s.cancels fun m => m < 96 && isRebound old new .heatMeter m) s.sweep t.sweep
  billing : t.billing = { s.billing with accounts := s.unsettled fun m => m < 96 && isRebound old new .heatMeter m }

theorem bindingReports_reported (old new : List (Option Binding)) : Reported s (bindingReports old new s) old new := by
  have discarded := candidatesDiscarded_changes (s := s) (isRebound old new)
  have tables := discarded.tables.resolve_left (by decide)
  have sweep := discarded.sweep.resolve_left (by decide)
  rw [bindingReports_eq]
  refine ⟨checkSweepEnd_tables.trans tables, fun r known => ?_, ?_, ?_⟩
  · rw [record_congr checkSweepEnd_records]
    exact State.record_candidatesDiscarded (isRebound old new) known
  · refine pollsCancelled_checkSweepEnd _ _ ?_
    rw [State.metersRebound_sweep _ sweep tables]
    exact pollsCancelled_cancelled _ _
  · exact checkSweepEnd_billing.trans
      (State.metersRebound_billing _ (discarded.billing.resolve_left (by decide)) tables)

/-! ### The owner of T0 -/

theorem ownT0_refused {index : Nat} {entries : List (List Byte)}
    (bad : readEntries widthsT0 (bindingOfFields s.pins.station) index entries = none) :
    ownT0 index entries s = refuse .invalidEntry s := by
  rw [ownT0, bad]

/-- R22 to R25: the checks of the table as it would stand, in their order. -/
theorem ownT0_read {index : Nat} {entries : List (List Byte)} {new : List (Option Binding)}
    (read : readEntries widthsT0 (bindingOfFields s.pins.station) index entries = some new)
    (after : List (Option Binding)) (stands : after = written s.tables.t0 index new) :
    let bs := after.filterMap id
    let many := 4 < (bs.filter fun b => b.role.mgmtClass.isSome).length
    let guarded := ¬ engineerLeft bs ∨ lastEngineerMove s.tables.t0 after
    let moved := s.alloc.state ≠ .stopped ∧ ∃ (i : Nat) (o n : Option Binding),
      s.tables.t0[i]? = some o ∧ after[i]? = some n ∧ governedRebound o n
    (many → ownT0 index entries s = refuse .invalidEntry s) ∧
    (¬ many → ¬ bindingsDistinct bs → ownT0 index entries s = refuse .duplicate s) ∧
    (¬ many → bindingsDistinct bs → guarded → ownT0 index entries s = refuse .notNow s) ∧
    (¬ many → bindingsDistinct bs → ¬ guarded → moved → ownT0 index entries s = refuse .notNow s) ∧
    (¬ many → bindingsDistinct bs → ¬ guarded → ¬ moved → ownT0 index entries s = doneWith
      (bindingReports s.tables.t0 after (s.onTables fun t => { t with t0 := after }))) := by
  subst stands
  intro bs many guarded moved
  have few : (!mgmtCountOk bs) = true ↔ many := by
    rw [Bool.not_eq_true', ← Bool.not_eq_true, mgmtCountOk_iff, not_not]
  have unique : (!uniqueBindings bs) = true ↔ ¬ bindingsDistinct bs := by
    rw [Bool.not_eq_true', ← Bool.not_eq_true, uniqueBindings_iff]
  have guard_ : (!guardOk s.tables.t0 (written s.tables.t0 index new)) = true ↔ guarded := by
    rw [Bool.not_eq_true', ← Bool.not_eq_true, guardOk_iff, not_not]
  have rebound : (s.alloc.state != .stopped && anyGovernedRebound s.tables.t0 (written s.tables.t0 index new)) = true ↔
      moved := by
    rw [Bool.and_eq_true, bne_iff_ne, anyGovernedRebound_iff]
  have own : ownT0 index entries s =
      if !mgmtCountOk bs then refuse .invalidEntry s
      else if !uniqueBindings bs then refuse .duplicate s
      else if !guardOk s.tables.t0 (written s.tables.t0 index new) then refuse .notNow s
      else if s.alloc.state != .stopped && anyGovernedRebound s.tables.t0 (written s.tables.t0 index new) then
        refuse .notNow s
      else doneWith (bindingReports s.tables.t0 (written s.tables.t0 index new)
        (s.onTables fun t => { t with t0 := written s.tables.t0 index new })) := by
    rw [ownT0, read]
    rfl
  have passed := fun h : ¬ many => own.trans (if_neg (mt few.mp h))
  have apart := fun (h : ¬ many) (single : bindingsDistinct bs) =>
    (passed h).trans (if_neg (mt unique.mp (not_not.mpr single)))
  have free := fun (h : ¬ many) (single : bindingsDistinct bs) (left : ¬ guarded) =>
    (apart h single).trans (if_neg (mt guard_.mp left))
  exact ⟨fun h => own.trans (if_pos (few.mpr h)), fun h double => (passed h).trans (if_pos (unique.mpr double)),
    fun h single held => (apart h single).trans (if_pos (guard_.mpr held)),
    fun h single left moves => (free h single left).trans (if_pos (rebound.mpr moves)),
    fun h single left stays => (free h single left).trans (if_neg (mt rebound.mp stays))⟩

end Sys2Proof.Machine

namespace Sys2Proof.Proofs
open Sys2Proof.Machine

/-- Settles O51: the checks of T0's owner in their order (`binding_iff`, `ownT0_read`), and the reports of a taken write
(`bindingReports_reported`). -/
theorem stationsWritten : Obligations.StationsWritten := by
  intro s q rest index fs some_ fit small h cls answers
  have judged := fun {a : Answer} => write_judged (command := .writeT0) (a := a) (by decide) rfl rfl rfl (by decide) some_
    fit small h cls
  have refused : ∀ status, ownT0 index (fs.map (fieldBytes widthsT0)) (s.withRequests rest) =
      refuse status (s.withRequests rest) → index + fs.length ≤ 128 → answers status.code s := fun status own inside =>
    judged (a := refuse status (s.withRequests rest)) ((if_neg (Nat.not_lt.mpr inside)).trans own)
  refine ⟨fun past => judged (a := refuse .outOfRange (s.withRequests rest)) (if_pos past), fun inside bad => ?_,
    fun new inside length each => ?_⟩
  · obtain ⟨f, mem, none_⟩ := bad
    obtain ⟨i, place⟩ := List.mem_iff_getElem?.mp mem
    refine refused .invalidEntry (ownT0_refused (readEntries_none fit ⟨i, f, place, ?_⟩)) inside
    cases read : bindingOfFields s.pins.station (index + i) f with
    | none => exact read
    | some b => exact absurd ((binding_iff (fit f mem)).mp read) (none_ b)
  · intro after bs many guarded moved rebound meterRebound
    have read : readEntries widthsT0 (bindingOfFields (s.withRequests rest).pins.station) index
        (fs.map (fieldBytes widthsT0)) = some new :=
      readEntries_some fit length fun i f b place entry =>
        (binding_iff (fit f (List.mem_of_getElem? place))).mpr (each i f b place entry)
    obtain ⟨tooMany, double, held, moves, taken⟩ := ownT0_read read after rfl
    refine ⟨fun m => refused .invalidEntry (tooMany m) inside, fun m d => refused .duplicate (double m d) inside,
      fun m d g => refused .notNow (held m d g) inside, fun m d g v => refused .notNow (moves m d g v) inside,
      fun m d g v => ?_⟩
    let placed : State := (s.withRequests rest).onTables fun t => { t with t0 := after }
    let t := bindingReports s.tables.t0 after placed
    have reports : Reported placed t s.tables.t0 after := bindingReports_reported _ _
    have changes : Changes [.tables, .records, .sweep, .billing, .notices] (s.withRequests rest) t :=
      (onTables_changes _).andThen (bindingReports_changes _ _ _) (by decide) (by decide)
    refine ⟨t.withRequests s.mgmt.queue, judged (a := doneWith t) ((if_neg (Nat.not_lt.mpr inside)).trans (taken m d g v)),
      reports.tables, reports.records, ?_, fun a known => ?_, ?_, ?_, ?_⟩
    · exact reports.polls
    · have becomes : (t.withRequests s.mgmt.queue).account a = _ :=
        (congrArg (fun b : Billing => b.accounts.getD a Account.initial) reports.billing).trans
          (mapFrom_getD _ known Account.initial)
      exact becomes.trans (if_congr Bool.and_eq_true_iff rfl rfl)
    · exact congrArg (fun b : Billing => { b with accounts := s.billing.accounts }) reports.billing
    · exact congrArg (fun t : State => { t with mgmt := s.mgmt }) changes.beyondReports
    · exact congrArg (fun m : Mgmt => { m with queue := s.mgmt.queue }) (changes.mgmt.resolve_left (by decide))

end Sys2Proof.Proofs
end
